-- ==== Sys2Proof/Word.lean ====
section
/-! DEFINITION. The words the NG-32 manual computes with, and the numbers that name its parts.
Only the plain types stand here; every operation on them stands under Machine/. -/

namespace Sys2Proof

/-- One byte of a frame, of a ring or of a table string. -/
abbrev Byte := BitVec 8

/-- A 16-bit field: a mark number, a mark or cause argument, a request tag, a frame type. -/
abbrev Word16 := BitVec 16

/-- A 32-bit field: a counter, an input offset, a comparator value. -/
abbrev Word32 := BitVec 32

/-- A capture position (R1): a 32-bit count of the bytes stored on one port. -/
abbrev Pos := BitVec 32

/-- A mark number (R47), compared serially modulo 65,536. -/
abbrev MarkNo := BitVec 16

/-- A 6-byte Ethernet address; its first byte is the most significant one. -/
abbrev Mac := BitVec 48

/-- A set drawn from the 32 ports: port n is a member when bit n is 1 (R182). -/
abbrev PortSet := BitVec 32

/-- A port number, 0..31. -/
abbrev PortId := Fin 32

/-- A session slot, 0..63. -/
abbrev SlotId := Fin 64

/-- A Station Table entry number, 0..15. -/
abbrev StationId := Fin 16

/-- A Pattern Table entry number, 0..63. -/
abbrev PatternId := Fin 64

/-- A Comparator Table entry number, 0..15. -/
abbrev ComparatorId := Fin 16

/-- A Key-in Table entry number, 0..15. -/
abbrev KeyinId := Fin 16

end Sys2Proof
end

