-- ==== Sys2Proof/Syntax.lean ====
section
/-! DEFINITION. The commands of the NG-32: one constructor of `Instr` for each row of
spec/opcode_table.json, with the operands that the spec leaves to the outside world.

A row that serves a frame (PROBE to WARM_RESTART) has no operand: the frame engine takes the oldest
frame of the receive queue (R172), and the frame's own bytes carry the request. A row that reports
an event of a pin, of a line or of a timer names the port, the slot or the entry, and the level or
character seen there. The `…Write` structures are the operands of MANAGE writes as they are sent
(R182), and as an image record carries them (R183): numbers that are not yet checked. -/

namespace Sys2Proof

/-- An edge of RXD as the detector times it (R33): its reference tick, and for how many ticks RXD then
holds the new level (DESIGN CHOICE, safe; assumption 33). -/
structure Edge where
  tick : Nat
  held : Nat
  deriving DecidableEq, Repr

/-- An action record as sent: kind, then argument (R182). -/
structure RawPair where
  kind : Nat
  arg  : Nat
  deriving DecidableEq, Repr

/-- The fields of a line profile as they are sent or recorded, in the order of R2, unchecked. -/
structure RawProfile where
  enable          : Nat
  rateMode        : Nat
  fixedRate       : Nat
  rateList        : List Nat
  tolerance       : Nat
  runsNeeded      : Nat
  detectWindow    : Nat
  redetect        : Nat
  dataBits        : Nat
  parity          : Nat
  stopBits        : Nat
  flow            : Nat
  breakThreshold  : Nat
  deadThreshold   : Nat
  liveQual        : Nat
  auxA            : Nat
  auxB            : Nat
  pulseDuration   : Nat
  sensePeriod     : Nat
  senseAgree      : Nat
  txBreak         : Nat
  deriving DecidableEq, Repr

/-- A write of a Station Table entry (R59): the entry number and the six fields of R57. -/
structure StationWrite where
  entry   : Nat
  valid   : Nat
  address : Mac
  rank    : Nat
  ports   : PortSet
  limit   : Nat
  rights  : Nat
  deriving DecidableEq, Repr

/-- A write of a Pattern Table entry (R107): every field of R106 but the match count. -/
structure PatternWrite where
  entry    : Nat
  valid    : Nat
  bytes    : List Byte
  wildFlag : Nat
  wild     : Byte
  caseFold : Nat
  ports    : PortSet
  rearm    : Nat
  markFlag : Nat
  action   : RawPair
  deriving DecidableEq, Repr

/-- A write of a Comparator Table entry (R131): every field of R130 but the last condition. -/
structure ComparatorWrite where
  entry   : Nat
  enable  : Nat
  port    : Nat
  counter : Nat
  method  : Nat
  value   : Word32
  action  : RawPair
  deriving DecidableEq, Repr

/-- A write of a Key-in Table entry (R139): the nine written fields of R138.
An absent stop pattern is 0xFF (R182). -/
structure KeyinWrite where
  entry       : Nat
  port        : Nat
  preBreak    : Nat
  string      : List Byte
  repeats     : Nat
  interval    : Nat
  stopPattern : Nat
  trigger     : RawPair
  autoArm     : Nat
  rearm       : Nat
  deriving DecidableEq, Repr

/-- The settings record of the image (R183): all seven settings of R178. -/
structure RawSettings where
  address      : Mac
  frameType    : Nat
  destination  : Mac
  mask         : Word32
  holdoff      : Nat
  sessionLimit : Nat
  writerLimit  : Nat
  deriving DecidableEq, Repr

/-- One record of the configuration image (R183): it carries what the matching MANAGE write gives. -/
inductive ImageRecord where
  | settings   (r : RawSettings)
  | allocation (blocks : List Nat)
  | station    (w : StationWrite)
  | profile    (port : Nat) (r : RawProfile)
  | pattern    (w : PatternWrite)
  | keyin      (w : KeyinWrite)
  | comparator (w : ComparatorWrite)
  deriving DecidableEq, Repr

/-- What the serial configuration memory holds (R183): whether it answers on its bus, the header's
marker, length in bytes and 16-bit sum, the records, and the bytes that stand after them (DESIGN
CHOICE, safe; assumption 26). -/
structure ConfigMemory where
  answers : Bool
  marker  : Bool
  length  : Nat
  sum     : Word16
  records : List ImageRecord
  rest    : List Byte
  deriving DecidableEq, Repr

/-- What a cold reset finds outside the part (R61, R183, R185): the straps ADDR4..ADDR0, the
COMMISSION pin (true is high), a memory newly fitted or programmed from outside (`none`: the memory
as the part left it), and, where a save was in progress, whether its first write had been made. -/
structure ColdInputs where
  straps      : BitVec 5
  commission  : Bool
  fitted      : Option ConfigMemory
  saveStarted : Bool
  deriving DecidableEq, Repr

/-- The order in which the part takes the separate events of one stored byte, which R125, R136 and
R145 leave open. `storedAt` is the place of the byte-stored event among the watch unit's finding of the
matches and its handling of each: 0 is before the finding, 1 before the first match. `parityAt` is the
place of the parity-error event among all these. `stopFirst` says whether a match that is both a stop
match and a trigger is used as the stop match first (DESIGN CHOICE, safe; assumption 12). -/
structure StoreOrder where
  storedAt  : Nat
  parityAt  : Nat
  stopFirst : Bool
  deriving DecidableEq, Repr

/-- The commands: one constructor per row of spec/opcode_table.json, in the table's order. -/
inductive Instr where
  /-- COLD_RESET (R184). -/
  | coldReset (inputs : ColdInputs)
  /-- FRAME_RECEIVE (R171): the bytes from the destination address to the FCS, and whether the FCS
  was bad or the PHY signalled a receive error (DESIGN CHOICE, safe; assumption 25). -/
  | frameReceive (bytes : List Byte) (bad : Bool)
  /-- MALFORMED_FRAME (R173). -/
  | malformedFrame
  /-- UNKNOWN_KIND (R173). -/
  | unknownKind
  /-- PROBE (R180). -/
  | probe
  /-- OPEN (R64). -/
  | openSession
  /-- CLOSE (R66). -/
  | closeSession
  /-- ATTACH (R67). -/
  | attach
  /-- DETACH (R71). -/
  | detach
  /-- SEEK (R88). -/
  | seek
  /-- CREDIT (R87). -/
  | credit
  /-- INPUT (R98). -/
  | input
  /-- BREAK (R102). -/
  | breakRequest
  /-- RELEASE (R103). -/
  | release
  /-- PULSE (R22). -/
  | pulse
  /-- KEYIN_START (R146). -/
  | keyinStart
  /-- KEYIN_STOP (R154). -/
  | keyinStop
  /-- ARM (R143). -/
  | arm
  /-- REARM (R115). -/
  | rearm
  /-- STATION_WRITE (R59). -/
  | stationWrite
  /-- STATION_READ (R60). -/
  | stationRead
  /-- PATTERN_WRITE (R108). -/
  | patternWrite
  /-- PATTERN_READ (R109). -/
  | patternRead
  /-- COMPARATOR_WRITE (R132). -/
  | comparatorWrite
  /-- COMPARATOR_READ (R132). -/
  | comparatorRead
  /-- KEYIN_WRITE (R140). -/
  | keyinWrite
  /-- KEYIN_READ (R141). -/
  | keyinRead
  /-- PROFILE_WRITE_ACTIVE (R4). -/
  | profileWriteActive
  /-- PROFILE_WRITE_STAGED (R5). -/
  | profileWriteStaged
  /-- PORT_STATUS (R25). -/
  | portStatus
  /-- ALLOCATE (R43). -/
  | allocate
  /-- ALLOCATION_READ (R41). -/
  | allocationRead
  /-- COUNTER_RESET (R128). -/
  | counterReset
  /-- PORT_RESTART (R26). -/
  | portRestart
  /-- STATION_ADDRESS_WRITE (R178). -/
  | stationAddressWrite
  /-- FRAME_TYPE_WRITE (R178). -/
  | frameTypeWrite
  /-- NOTICE_DESTINATION_WRITE (R165). -/
  | noticeDestinationWrite
  /-- NOTICE_MASK_WRITE (R161). -/
  | noticeMaskWrite
  /-- HOLDOFF_WRITE (R166). -/
  | holdoffWrite
  /-- SESSION_IDLE_LIMIT_WRITE (R82). -/
  | sessionIdleLimitWrite
  /-- WRITER_IDLE_LIMIT_WRITE (R82). -/
  | writerIdleLimitWrite
  /-- SETTINGS_READ (R178). -/
  | settingsRead
  /-- NOTICE_READ (R169). -/
  | noticeRead
  /-- SAVE (R185). -/
  | save
  /-- SAVE_DONE (R185). -/
  | saveDone
  /-- SAVE_FAILED (R185). -/
  | saveFailed
  /-- WARM_RESTART (R186). -/
  | warmRestart
  /-- REPLY_TURN (R92). -/
  | replyTurn
  /-- NOTICE_TURN (R167). -/
  | noticeTurn
  /-- DATA_TURN (R96). -/
  | dataTurn
  /-- GATHER_TIMER_EXPIRY (R90) of one session. -/
  | gatherTimerExpiry (slot : SlotId)
  /-- SESSION_IDLE_EXPIRY (R80) of one session. -/
  | sessionIdleExpiry (slot : SlotId)
  /-- WRITER_IDLE_EXPIRY (R81) of one session. -/
  | writerIdleExpiry (slot : SlotId)
  /-- HOLDOFF_TIMER_EXPIRY (R166). -/
  | holdoffTimerExpiry
  /-- BYTE_STORED (R45): the eight data bits and the parity bit as sampled (true is mark), and the
  order of the events that follow. -/
  | byteStored (port : PortId) (data : Byte) (parityBit : Bool) (order : StoreOrder)
  /-- FRAMING_ERROR (R15). -/
  | framingError (port : PortId)
  /-- BREAK_RECORDED (R15). -/
  | breakRecorded (port : PortId)
  /-- DEAD_THRESHOLD (R12). -/
  | deadThreshold (port : PortId)
  /-- LIVE_QUALIFICATION (R13). -/
  | liveQualification (port : PortId)
  /-- DETECTOR_RUN (R33, R34): an edge of RXD, and whether RXD is at mark after it. -/
  | detectorRun (port : PortId) (edge : Edge) (mark : Bool)
  /-- DETECTION_WINDOW_EXPIRY (R35). -/
  | detectionWindowExpiry (port : PortId)
  /-- SWITCHING_END (R8). -/
  | switchingEnd (port : PortId)
  /-- TRANSMITTER_CHOICE (R17), with the AUX-B level of that moment (true is high; R19). -/
  | transmitterChoice (port : PortId) (auxBHigh : Bool)
  /-- BYTE_SENT (R18), and whether the key-in unit takes the end of the item before the counter
  bank takes the byte-sent event, which the manual leaves open. -/
  | byteSent (port : PortId) (keyinFirst : Bool)
  /-- BREAK_TOKEN_END (R18). -/
  | breakTokenEnd (port : PortId)
  /-- INTERVAL_TIMER_EXPIRY (R150) of one key-in entry. -/
  | intervalTimerExpiry (entry : KeyinId)
  /-- CTS_ASSERT (R19). -/
  | ctsAssert (port : PortId)
  /-- PULSE_TIMER_EXPIRY (R23). -/
  | pulseTimerExpiry (port : PortId)
  /-- SENSE_SAMPLE (R24), with the AUX-B level sampled (true is high). -/
  | senseSample (port : PortId) (auxBHigh : Bool)
  /-- SPACE_RUN_END (R13). -/
  | spaceRunEnd (port : PortId)
  deriving DecidableEq, Repr

end Sys2Proof
end

