-- ==== Sys2Proof/Decode.lean ====
section
/-! DEFINITION. The commands that a word spells. The opcode table gives no row any bits: a command of
the NG-32 is a frame's request, or an event of a pin, a line or a timer, and none is a word. The
requests inside frames are read by `parseRequest` of Machine/Operands.lean, from R182's layouts. -/

namespace Sys2Proof

/-- No row of the table has bits, so no word spells a command (DEDUCED, safe; assumption 3). -/
def decodeTableWord (_nbits _w : Nat) : Option Instr := none

end Sys2Proof
end

