-- ==== Sys2Proof/Config.lean ====
section
/-! DEFINITION. What the part fixes: sizes and identities the manual states, and the free values the
manual leaves open (opaque constants without a body, of which nothing can be proved). -/

namespace Sys2Proof.Config

/-- Reference ticks in a second (R29, R36): REFCLK is 36.864 MHz. -/
abbrev refClock : Nat := 36864000

/-- The glitch floor of R11 and R33, in reference ticks. -/
abbrev glitchFloor : Nat := 32

/-- Bytes in a block of the capture store (R41). -/
abbrev blockBytes : Nat := 1024

/-- Blocks of the capture store (R41). -/
abbrev storeBlocks : Nat := 512

/-- Marks a marks list holds at most (R47). -/
abbrev maxMarks : Nat := 16

/-- Items a keystroke queue holds at most (R20). -/
abbrev queueItems : Nat := 256

/-- Sessions a wait list holds at most (R72). -/
abbrev waitPlaces : Nat := 4

/-- Frames each uplink queue holds at most (R172). -/
abbrev uplinkFrames : Nat := 8

/-- Records the notice queue holds at most (R163). -/
abbrev noticeRecords : Nat := 32

/-- Marks or notice records one frame carries at most (R94, R167). -/
abbrev perFrame : Nat := 8

/-- Bytes one DATA frame carries at most (R94). -/
abbrev dataBytes : Nat := 1024

/-- The default gather time in ms (R67). -/
abbrev defaultGather : Nat := 20

/-- The part identity of R180: vendor code, part code and silicon revision. -/
abbrev vendorCode : Nat := 0x2C
abbrev partCode : Nat := 0x0320
abbrev siliconRevision : Nat := 1

/-- FREE VALUE (DESIGN CHOICE, safe; assumption 5): whether a time left that is no whole number of
10 ms units is reported rounded up. R25 and R169 give the unit and no rounding. -/
opaque timeLeftRoundsUp : Nat → Bool

/-- FREE VALUE (DESIGN CHOICE, safe; assumption 9): the byte that stands for "unlimited" in the
remaining repeats of a KEYIN_READ reply. R138 and R141 name the value and R182 gives it no byte. -/
opaque unlimitedRepeats : Byte

/-- FREE VALUE (DESIGN CHOICE, safe; assumption 26): the byte with which an image record names its
kind. R183 has each record name it and gives no code. -/
opaque recordKind : Nat → Byte

end Sys2Proof.Config
end

