-- ==== Sys2Proof/Machine/State.lean ====
section
/-! DEFINITION. The state of the NG-32: every table, record, queue, flag and timer the manual names,
as plain data, and its values after cold reset (`State.reset`). Timers hold the milliseconds left;
`none` is a stopped timer. -/

namespace Sys2Proof.Machine

/-- No command of the NG-32 faults: every state in which a rule gives a command an effect has that
effect, and every refusal of the manual is a REPLY of the part. Nothing raises a fault. -/
inductive Fault where
  deriving DecidableEq, Repr

/-- Why the model gives a command no outcome. -/
inductive Refusal where
  /-- Raised by `exec` for a row that has no meaning yet (safe: nothing is claimed of it). -/
  | notModelled (mnemonic : String)
  deriving DecidableEq, Repr

/-! ### Line profiles (R2) -/

inductive RateMode where
  | fixed | auto
  deriving DecidableEq, Repr

inductive DataBits where
  | seven | eight
  deriving DecidableEq, Repr

inductive Parity where
  | none | even | odd | mark | space
  deriving DecidableEq, Repr

inductive StopBits where
  | one | two
  deriving DecidableEq, Repr

inductive Flow where
  | none | cts
  deriving DecidableEq, Repr

inductive AuxA where
  | none | resetLow | resetHigh
  deriving DecidableEq, Repr

inductive AuxB where
  | none | sense | cts
  deriving DecidableEq, Repr

/-- A line profile (R2). Times are counts of the unit R2 gives each field. -/
structure Profile where
  enable         : Bool
  rateMode       : RateMode
  fixedRate      : Nat
  rateList       : List Nat
  tolerance      : Nat
  runsNeeded     : Nat
  detectWindow   : Nat
  redetect       : Bool
  dataBits       : DataBits
  parity         : Parity
  stopBits       : StopBits
  flow           : Flow
  breakThreshold : Nat
  deadThreshold  : Nat
  liveQual       : Nat
  auxA           : AuxA
  auxB           : AuxB
  pulseDuration  : Nat
  sensePeriod    : Nat
  senseAgree     : Nat
  txBreak        : Nat
  deriving DecidableEq, Repr

/-- The default profile: the third column of R2. -/
def Profile.default : Profile where
  enable := false
  rateMode := .auto
  fixedRate := 9600
  rateList := [9600, 19200, 38400, 57600, 115200]
  tolerance := 2
  runsNeeded := 16
  detectWindow := 20
  redetect := true
  dataBits := .eight
  parity := .none
  stopBits := .one
  flow := .none
  breakThreshold := 20
  deadThreshold := 10
  liveQual := 50
  auxA := .none
  auxB := .none
  pulseDuration := 50
  sensePeriod := 10
  senseAgree := 3
  txBreak := 25

/-! ### Ports -/

/-- The states of a port (R6). -/
inductive PortState where
  | disabled | switching | detecting | live | dead
  deriving DecidableEq, Repr

/-- The kinds of capture mark (R48). -/
inductive MarkKind where
  | breakRx | dead | live | rateSet | patternMatch | pulseStart | pulseEnd | sense
  | keyinStart | keyinEnd | writer | switch
  deriving DecidableEq, Repr

/-- A mark (R47). -/
structure Mark where
  number   : MarkNo
  position : Pos
  kind     : MarkKind
  arg      : Word16
  deriving DecidableEq, Repr

/-- The ring and the marks list of one port (R44, R47). `held` is the bytes of the positions from the
oldest up to the head, oldest first: the fill is its length (DESIGN CHOICE, safe; assumption 16). -/
structure Ring where
  head     : Pos
  held     : List Byte
  marks    : List Mark
  nextMark : MarkNo
  deriving DecidableEq, Repr

/-- An item of a keystroke queue (R20). -/
inductive QueueItem where
  | byte (b : Byte)
  | breakToken
  deriving DecidableEq, Repr

/-- What the transmitter has in flight on TXD (R18): the line levels of a character, one bit time
each, true at mark; or space held for a number of ms and then mark for one bit time. -/
inductive Signal where
  | character (value : Byte) (levels : List Bool)
  | breakSpace (ms : Nat)
  deriving DecidableEq, Repr

/-- The item in flight, and whether it comes from a key-in entry (R25). -/
structure Flight where
  signal    : Signal
  fromKeyin : Bool
  deriving DecidableEq, Repr

/-- The window states of a rate detector (R32). -/
inductive WindowState where
  | closed | discarding | counting
  deriving DecidableEq, Repr

/-- A rate detector (R32). `level` is the level of the run in progress: true at mark. -/
structure Detector where
  window   : WindowState
  timer    : Option Nat
  level    : Bool
  runStart : Nat
  count    : Nat
  minRun   : Option Nat
  deriving DecidableEq, Repr

/-- A sense qualifier (R24): the qualified level, the count of differing samples, and the time to the
next sample while the qualifier runs. -/
structure Sense where
  active : Bool
  count  : Nat
  timer  : Option Nat
  deriving DecidableEq, Repr

/-- The eight counters of a port (R124). -/
inductive CounterId where
  | rxb | txb | fer | per | brk | una | mat | deads
  deriving DecidableEq, Repr

structure Counters where
  rxb   : Word32
  txb   : Word32
  fer   : Word32
  per   : Word32
  brk   : Word32
  una   : Word32
  mat   : Word32
  deads : Word32
  deriving DecidableEq, Repr

/-- One console port: line engine, detector, ring, counters, writer and wait list. -/
structure Port where
  state     : PortState
  /-- The rate-found flag (R6). -/
  rateFound : Bool
  /-- The sample divisor S (R28). -/
  divisor   : Nat
  active    : Profile
  staged    : Option Profile
  detector  : Detector
  /-- The RXD level last seen: true at mark. -/
  rxMark    : Bool
  /-- A BREAK has been recorded for the present space run (R16). -/
  breakSeen : Bool
  /-- The live qualification time left, while RXD is held at mark in DEAD (R13). -/
  qualTimer : Option Nat
  /-- The item in flight in the transmitter, if any (R17, R18). -/
  flight    : Option Flight
  /-- The keystroke queue (R20), head first. -/
  queue     : List QueueItem
  /-- The transmit hold flag (R21). -/
  hold      : Bool
  /-- The AUX-B level last seen: true is high. -/
  auxBHigh  : Bool
  /-- The pulse timer, while a pulse is in progress (R22). -/
  pulse     : Option Nat
  sense     : Sense
  counters  : Counters
  /-- The entry of the Ring Allocation Table, in blocks (R41). -/
  alloc     : Nat
  ring      : Ring
  /-- The session that holds the keyboard (R72). -/
  writer    : Option SlotId
  /-- The wait list (R72), place 1 first. -/
  waitList  : List SlotId
  deriving DecidableEq, Repr

/-! ### Stations and sessions -/

/-- The management rights of a station (R57). -/
structure Rights where
  manage : Bool
  pulse  : Bool
  keyin  : Bool
  deriving DecidableEq, Repr

/-- A Station Table entry (R57). -/
structure Station where
  valid   : Bool
  address : Mac
  rank    : Nat
  ports   : PortSet
  limit   : Nat
  rights  : Rights
  deriving DecidableEq, Repr

/-- The gather timer (R90). -/
inductive GatherTimer where
  | stopped
  | running (left : Nat)
  | expired
  deriving DecidableEq, Repr

/-- The last input status (R100). -/
inductive InputStatus where
  | ok | full | gap | notWriter | portDisabled
  deriving DecidableEq, Repr

/-- The pending status flags (R79, R100). -/
structure StatusFlags where
  roleChange  : Bool
  preempted   : Bool
  idleDemoted : Bool
  waitPlace   : Bool
  inputReport : Bool
  deriving DecidableEq, Repr

/-- The fields of a session record that are present while it is attached (R62). The role and the wait
place stand in the port's `writer` and `waitList`. -/
structure Attachment where
  port       : PortId
  cursor     : Pos
  credit     : Pos
  nextMark   : MarkNo
  lost       : Word32
  markLoss   : Bool
  gatherTime : Nat
  gather     : GatherTimer
  ip         : Word32
  lastInput  : InputStatus
  flags      : StatusFlags
  writerIdle : Option Nat
  deriving DecidableEq, Repr

/-- The fields of a session record that are present while it is not FREE (R62, R85). -/
structure Live where
  station    : StationId
  rank       : Nat
  peer       : Mac
  idle       : Nat
  attachment : Option Attachment
  deriving DecidableEq, Repr

/-- A session record (R62): the generation, and the rest while the slot is not FREE. -/
structure Session where
  generation : Byte
  live       : Option Live
  deriving DecidableEq, Repr

/-- The states of a session (R62). -/
inductive SessionState where
  | free | opened | watching | writing
  deriving DecidableEq, Repr

/-! ### Watch patterns, comparators and key-in entries -/

/-- The actions (R119). -/
inductive Action where
  | none | hold | release | pulse | stage
  | keyin (entry : KeyinId)
  | stopKeyin
  deriving DecidableEq, Repr

inductive Rearm where
  | every | once
  deriving DecidableEq, Repr

/-- The fields of a valid Pattern Table entry (R106). -/
structure Pattern where
  bytes    : List Byte
  wildcard : Option Byte
  caseFold : Bool
  ports    : PortSet
  rearm    : Rearm
  markFlag : Bool
  action   : Action
  deriving DecidableEq, Repr

/-- A Pattern Table entry: the pattern where it is valid, the match count, and for each port the
match window, which exists exactly where the pattern is armed (R111). -/
structure PatternEntry where
  pattern : Option Pattern
  matchCount : Word32
  windows : Vector (Option (List Byte)) 32
  deriving DecidableEq, Repr

inductive Method where
  | eq | ge | lt
  deriving DecidableEq, Repr

/-- A Comparator Table entry (R130). -/
structure Comparator where
  enable  : Bool
  port    : PortId
  counter : CounterId
  method  : Method
  value   : Word32
  action  : Action
  last    : Bool
  deriving DecidableEq, Repr

/-- The triggers (R144). -/
inductive Trigger where
  | request
  | patternMatch (pattern : PatternId)
  | compare (comparator : ComparatorId)
  | pulseEnd
  | live
  | senseOn
  | after (entry : KeyinId)
  deriving DecidableEq, Repr

/-- The outcomes of a key-in run (R157, R182). -/
inductive Outcome where
  | completed | exhausted | stoppedByMatch | stoppedByAction | stoppedByRequest
  | abortedDead | abortedRestart
  deriving DecidableEq, Repr

/-- The run state of a RUNNING entry (R148). `remaining` is `none` for "unlimited"; `place` is the
number of items of the present cycle already started; `interval` is the interval timer;
`byteSince` says that a byte has been stored on the port since the run started (R152). -/
structure Run where
  start     : Pos
  remaining : Option Nat
  cycle     : Nat
  place     : Nat
  inFlight  : Bool
  stop      : Option Outcome
  interval  : Option Nat
  byteSince : Bool
  deriving DecidableEq, Repr

/-- The states of a key-in entry (R142), with the run state of a RUNNING one. -/
inductive KeyinState where
  | idle | armed | pending
  | running (run : Run)
  deriving DecidableEq, Repr

/-- A Key-in Table entry (R138). Pre-break and interval count units of 10 ms. -/
structure KeyinEntry where
  port        : PortId
  preBreak    : Nat
  string      : List Byte
  repeats     : Nat
  interval    : Nat
  stopPattern : Option PatternId
  trigger     : Trigger
  autoArm     : Bool
  rearm       : Bool
  state       : KeyinState
  lastOutcome : Option Outcome
  deriving DecidableEq, Repr

/-! ### Notices -/

/-- The causes (R160). -/
inductive Cause where
  | lineDead | rateUnmatched | keyinFailed | imageFault | saveFailed
  | lineLive | breakRx | rateSet | patternMatch | compare | keyinDone | pulseDone
  | senseChange | writerChange | sessionTimeout | saveDone
  deriving DecidableEq, Repr

/-- A notice record (R162). `port` is `none` for the part as a whole. -/
structure NoticeRecord where
  cause     : Cause
  port      : Option PortId
  arg       : Word16
  first     : Pos
  count     : Nat
  portState : Option PortState
  sense     : Option Bool
  deriving DecidableEq, Repr

/-- The notice unit (R161 to R168). `timer` is `none` when the holdoff timer has RUN OUT. -/
structure NoticeUnit where
  queue       : List NoticeRecord
  mask        : Word32
  destination : Option Mac
  holdoff     : Nat
  timer       : Option Nat
  overflow    : Bool
  sequence    : Word16
  deriving DecidableEq, Repr

/-! ### The uplink -/

/-- The result codes (R175). -/
inductive Result where
  | ok | clamped | refusedAccess | noSlot | limit | inUse | busy | full | range
  | notWriter | portDisabled | pulseActive | saveActive | unknownKind
  deriving DecidableEq, Repr

/-- An accepted frame in the receive queue (R171): whether it was sent to the broadcast address, its
source address and its data field. -/
structure RxFrame where
  broadcast : Bool
  source    : Mac
  data      : List Byte
  deriving DecidableEq, Repr

/-- A REPLY in the reply queue (R174): its destination, the echoed header fields, the request kind,
the result, the MANAGE operation code if any, and the encoded values of the request's rule. -/
structure Reply where
  dest       : Mac
  slot       : Byte
  generation : Byte
  tag        : Word16
  kind       : Byte
  result     : Result
  op         : Option Byte
  values     : List Byte
  deriving DecidableEq, Repr

/-- A frame handed to the PHY: addresses, type and data field. -/
structure WireFrame where
  dest   : Mac
  source : Mac
  type   : Word16
  data   : List Byte
  deriving DecidableEq, Repr

/-- The uplink counters (R181). -/
structure UplinkCounters where
  rxOk        : Word32
  rxFull      : Word32
  rxBadFcs    : Word32
  rxNotMine   : Word32
  rxStale     : Word32
  rxMalformed : Word32
  txFrames    : Word32
  deriving DecidableEq, Repr

/-- The uplink port and frame engine (R171, R172, R178), with the arbiter's round-robin place (R85).
`sent` is the frame last handed to the PHY (DESIGN CHOICE, safe; assumption 24). -/
structure Uplink where
  address     : Mac
  frameType   : Word16
  receiveOpen : Bool
  rxQueue     : List RxFrame
  replies     : List Reply
  counters    : UplinkCounters
  roundRobin  : SlotId
  sent        : Option WireFrame
  deriving DecidableEq, Repr

/-! ### The whole part -/

/-- The state of the part. -/
structure State where
  ports         : Vector Port 32
  sessions      : Vector Session 64
  stations      : Vector Station 16
  /-- The commissioning flag (R61). -/
  commissioning : Bool
  patterns      : Vector PatternEntry 64
  comparators   : Vector Comparator 16
  keyins        : Vector KeyinEntry 16
  notice        : NoticeUnit
  uplink        : Uplink
  /-- The session idle limit, in s (R82). -/
  sessionLimit  : Nat
  /-- The writer idle limit, in s; 0 is none (R82). -/
  writerLimit   : Nat
  /-- The records copied when a SAVE was taken, while the save is in progress (R185). -/
  saving        : Option (List ImageRecord)
  /-- The serial configuration memory on the I2C pins (R183). -/
  memory        : ConfigMemory
  /-- The commands waiting, first in first out. -/
  pending       : List Instr
  deriving DecidableEq, Repr

/-! ### Values after cold reset -/

/-- A closed detector (R32). R32 states no level and no start of a run for it (DESIGN CHOICE, unsafe;
assumption 32). -/
def Detector.reset : Detector where
  window := .closed
  timer := none
  level := true
  runStart := 0
  count := 0
  minRun := none

/-- A stopped qualifier (R24, R27). Its count, which R24 does not state for a stopped qualifier, is 0
(DESIGN CHOICE, unsafe; assumption 32). -/
def Sense.reset : Sense where
  active := false
  count := 0
  timer := none

def Counters.zero : Counters := ⟨0, 0, 0, 0, 0, 0, 0, 0⟩

def Ring.reset : Ring where
  head := 0
  held := []
  marks := []
  nextMark := 0

/-- A port after cold reset (R6, R27, R32, R54, R72, R129); the levels of its two input pins are the
outside's. The fields without a stated value are the model's (DESIGN CHOICE, unsafe; assumption 32). -/
def Port.reset (rxMark auxBHigh : Bool) : Port where
  state := .disabled
  rateFound := false
  divisor := 1920
  active := .default
  staged := none
  detector := .reset
  rxMark := rxMark
  breakSeen := false
  qualTimer := none
  flight := none
  queue := []
  hold := false
  auxBHigh := auxBHigh
  pulse := none
  sense := .reset
  counters := .zero
  alloc := 16
  ring := .reset
  writer := none
  waitList := []

/-- A session slot after cold reset (R62). -/
def Session.reset : Session where
  generation := 0
  live := none

/-- An invalid Station Table entry, as after cold reset (R57); the values of the fields of an entry that
is not valid are the model's (DESIGN CHOICE, unsafe; assumption 28). -/
def Station.invalid : Station where
  valid := false
  address := 0
  rank := 0
  ports := 0
  limit := 1
  rights := ⟨false, false, false⟩

/-- An invalid Pattern Table entry, as after cold reset (R106). -/
def PatternEntry.invalid : PatternEntry where
  pattern := none
  matchCount := 0
  windows := Vector.replicate 32 none

/-- A Comparator Table entry after cold reset (R130). -/
def Comparator.reset : Comparator where
  enable := false
  port := 0
  counter := .rxb
  method := .eq
  value := 0
  action := .none
  last := false

/-- A Key-in Table entry after cold reset (R138). -/
def KeyinEntry.reset : KeyinEntry where
  port := 0
  preBreak := 0
  string := []
  repeats := 1
  interval := 1
  stopPattern := none
  trigger := .request
  autoArm := false
  rearm := false
  state := .idle
  lastOutcome := none

/-- The notice unit after cold reset (R170). -/
def NoticeUnit.reset : NoticeUnit where
  queue := []
  mask := 0
  destination := none
  holdoff := 10
  timer := none
  overflow := false
  sequence := 0

def UplinkCounters.zero : UplinkCounters := ⟨0, 0, 0, 0, 0, 0, 0⟩

/-- The cold-reset station address 02-4A-4E-00-00-nn, nn being the value of the straps (R183). -/
def defaultAddress (straps : BitVec 5) : Mac :=
  0x024A4E000000#48 ||| straps.setWidth 48

/-- The uplink after cold reset (R105, R171, R172, R178, R181). -/
def Uplink.reset (straps : BitVec 5) : Uplink where
  address := defaultAddress straps
  frameType := 0x88B6
  receiveOpen := false
  rxQueue := []
  replies := []
  counters := .zero
  roundRobin := 63
  sent := none

/-- A configuration memory that answers and holds no image. -/
def blankMemory : ConfigMemory where
  answers := true
  marker := false
  length := 0
  sum := 0
  records := []
  rest := []

/-- The part right after cold reset, before start-up (R184): the values each chapter states. The
straps at 0, the input pins at their idle levels and the blank memory are the model's
(DESIGN CHOICE, unsafe; assumptions 1 and 2). -/
def State.reset : State where
  ports := Vector.replicate 32 (Port.reset true true)
  sessions := Vector.replicate 64 Session.reset
  stations := Vector.replicate 16 Station.invalid
  commissioning := false
  patterns := Vector.replicate 64 PatternEntry.invalid
  comparators := Vector.replicate 16 Comparator.reset
  keyins := Vector.replicate 16 KeyinEntry.reset
  notice := .reset
  uplink := .reset 0
  sessionLimit := 120
  writerLimit := 600
  saving := none
  memory := blankMemory
  pending := []

end Sys2Proof.Machine
end

