-- ==== Sys2Proof/Machine/Ops.lean ====
section
/-! DEFINITION. The named operations every block shares: serial comparison, saturating counts, access
to the tables, the ring and its marks (R43 to R52), raising a cause (R160 to R164) and counting at
the uplink (R181). -/

namespace Sys2Proof.Machine

/-! ### Arithmetic -/

/-- Position p precedes position q (R1). -/
def precedes (p q : Pos) : Bool :=
  1 ≤ (q - p).toNat && (q - p).toNat < 2 ^ 31

/-- Position p is at or before position q (R1). -/
def atOrBefore (p q : Pos) : Bool :=
  p == q || precedes p q

/-- Mark number m precedes mark number n (R1, R47). -/
def markPrecedes (m n : MarkNo) : Bool :=
  1 ≤ (n - m).toNat && (n - m).toNat < 2 ^ 15

/-- Mark number m is at or before mark number n. -/
def markAtOrBefore (m n : MarkNo) : Bool :=
  m == n || markPrecedes m n

/-- One more, or the greatest value where the counter holds it (Conventions, R125). -/
def satInc (w : Word32) : Word32 :=
  if w = BitVec.allOnes 32 then w else w + 1

/-- n more, saturating. -/
def satAdd (w : Word32) (n : Nat) : Word32 :=
  if w.toNat + n < 2 ^ 32 then w + BitVec.ofNat 32 n else BitVec.allOnes 32

/-- The nearest value of lo..hi (R175). -/
def clampTo (lo hi n : Nat) : Nat :=
  if n < lo then lo else if hi < n then hi else n

/-- A time left in ms, in the 10 ms units of R25 and R169. -/
def tenMsUnits (ms : Nat) : Nat :=
  if ms % 10 = 0 then ms / 10
  else if Config.timeLeftRoundsUp ms then ms / 10 + 1 else ms / 10

/-- A number as a member of 0..n-1, where it is one. -/
def index? (n k : Nat) : Option (Fin n) :=
  if h : k < n then some ⟨k, h⟩ else none

/-- The port set holds the port (R182). -/
def inSet (ps : PortSet) (p : PortId) : Bool :=
  ps.getLsbD p.val

/-! ### Tables -/

/-- The table with f applied to every row. -/
def tabMap {α β : Type} {n : Nat} (f : α → β) (v : Vector α n) : Vector β n :=
  ⟨⟨v.toList.map f⟩, by simp⟩

/-- The ports in order. -/
def allPorts : List PortId := List.finRange 32

def State.port (s : State) (p : PortId) : Port := s.ports[p]

def State.modPort (p : PortId) (f : Port → Port) (s : State) : State :=
  { s with ports := s.ports.set p (f s.ports[p]) }

def State.session (s : State) (k : SlotId) : Session := s.sessions[k]

def State.modSession (k : SlotId) (f : Session → Session) (s : State) : State :=
  { s with sessions := s.sessions.set k (f s.sessions[k]) }

def State.station (s : State) (e : StationId) : Station := s.stations[e]

def State.patternEntry (s : State) (i : PatternId) : PatternEntry := s.patterns[i]

def State.modPattern (i : PatternId) (f : PatternEntry → PatternEntry) (s : State) : State :=
  { s with patterns := s.patterns.set i (f s.patterns[i]) }

def State.comparator (s : State) (i : ComparatorId) : Comparator := s.comparators[i]

def State.modComparator (i : ComparatorId) (f : Comparator → Comparator) (s : State) : State :=
  { s with comparators := s.comparators.set i (f s.comparators[i]) }

def State.keyin (s : State) (e : KeyinId) : KeyinEntry := s.keyins[e]

def State.modKeyin (e : KeyinId) (f : KeyinEntry → KeyinEntry) (s : State) : State :=
  { s with keyins := s.keyins.set e (f s.keyins[e]) }

/-- The state after f has acted for each number of the list, in order. -/
def forEach {α : Type} (xs : List α) (f : α → State → State) (s : State) : State :=
  xs.foldl (fun s x => f x s) s

/-! ### Session records (R62) -/

/-- The attachment of a session, where it is attached. -/
def Session.attachment (x : Session) : Option Attachment :=
  x.live.bind (·.attachment)

def Session.mapAttachment (f : Attachment → Attachment) (x : Session) : Session :=
  { x with live := x.live.map fun l => { l with attachment := l.attachment.map f } }

def State.modAttachment (k : SlotId) (f : Attachment → Attachment) (s : State) : State :=
  s.modSession k (·.mapAttachment f)

/-- f applied to the attachment of every session attached to the port. -/
def State.mapAttached (p : PortId) (f : Attachment → Attachment) (s : State) : State :=
  { s with sessions :=
      tabMap (Session.mapAttachment fun a => if a.port = p then f a else a) s.sessions }

/-- The session is attached to the port. -/
def State.attachedTo (s : State) (k : SlotId) (p : PortId) : Bool :=
  match (s.session k).attachment with
  | some a => a.port == p
  | none => false

/-- The session holds the keyboard of the port it is attached to (R62, R72). -/
def State.isWriter (s : State) (k : SlotId) : Bool :=
  match (s.session k).attachment with
  | some a => (s.port a.port).writer == some k
  | none => false

/-- The state of a session (R62). -/
def State.sessionState (s : State) (k : SlotId) : SessionState :=
  match (s.session k).live with
  | none => .free
  | some l =>
    match l.attachment with
    | none => .opened
    | some a => if (s.port a.port).writer = some k then .writing else .watching

/-- The wait place of a session, 1..4, while it is on the wait list of its port (R72). -/
def State.waitPlace (s : State) (k : SlotId) : Option Nat :=
  match (s.session k).attachment with
  | some a =>
    if k ∈ (s.port a.port).waitList then some ((s.port a.port).waitList.idxOf k + 1) else none
  | none => none

/-! ### The ring (R44 to R46) -/

/-- The capacity of a port's ring in bytes (R41). -/
def Port.capacity (q : Port) : Nat := q.alloc * Config.blockBytes

/-- The fill F (R44). -/
def Ring.fill (r : Ring) : Nat := r.held.length

/-- The oldest O, (H − F) modulo 2^32 (R44). -/
def Ring.oldest (r : Ring) : Pos := r.head - BitVec.ofNat 32 r.held.length

/-- The n bytes from position c on, as far as they are held (R94). -/
def Ring.bytesFrom (r : Ring) (c : Pos) (n : Nat) : List Byte :=
  (r.held.drop (c - r.oldest).toNat).take n

/-- The byte of a position, where the ring holds it (R44). -/
def Ring.read (r : Ring) (c : Pos) : Option Byte :=
  r.held[(c - r.oldest).toNat]?

/-- The reference number of R51. -/
def Ring.reference (r : Ring) : MarkNo :=
  match r.marks with
  | [] => r.nextMark
  | m :: _ => m.number

/-- The search of R52: the first listed mark at or after the cursor, or the next mark number. -/
def Ring.search (r : Ring) (c : Pos) : MarkNo :=
  match r.marks.find? (fun m => atOrBefore c m.position) with
  | some m => m.number
  | none => r.nextMark

/-- Steps 1 to 3 of R45 and the removal of R50, for a ring of the given capacity. -/
def Ring.store (cap : Nat) (b : Byte) (r : Ring) : Ring :=
  if r.held.length < cap then
    { r with head := r.head + 1, held := r.held ++ [b] }
  else
    { r with
      head := r.head + 1
      held := (r.held ++ [b]).drop 1
      marks := r.marks.dropWhile fun m => precedes m.position (r.oldest + 1) }

/-- Steps 1 to 3 of R49. -/
def Ring.addMark (kind : MarkKind) (arg : Word16) (r : Ring) : Ring :=
  { r with
    marks := (if Config.maxMarks ≤ r.marks.length then r.marks.drop 1 else r.marks) ++
      [{ number := r.nextMark, position := r.head, kind := kind, arg := arg }]
    nextMark := r.nextMark + 1 }

/-- The emptying of R43, steps 2 and 4. -/
def Ring.emptied (r : Ring) : Ring :=
  { r with held := [], marks := [] }

/-- R51 for one session: it is moved up to the reference number where it has missed a mark. -/
def Attachment.syncMarks (reference : MarkNo) (a : Attachment) : Attachment :=
  if markPrecedes a.nextMark reference then
    { a with markLoss := true, nextMark := reference }
  else a

/-- R46 for one session: it is moved on where its cursor stood at the old oldest. -/
def Attachment.overtaken (old : Pos) (a : Attachment) : Attachment :=
  if a.cursor = old then { a with cursor := old + 1, lost := satInc a.lost } else a

/-- Step 3 of R43 for one session. -/
def Attachment.ringEmptied (head : Pos) (a : Attachment) : Attachment :=
  { a with cursor := head, lost := satAdd a.lost (head - a.cursor).toNat }

def State.setRing (p : PortId) (r : Ring) (s : State) : State :=
  s.modPort p fun q => { q with ring := r }

/-! ### Undelivered content and gather timers (R86, R89 to R91) -/

/-- The sendable count of an attached session (R86). -/
def Attachment.sendable (a : Attachment) (r : Ring) : Nat :=
  if precedes a.cursor a.credit then min (r.head - a.cursor).toNat (a.credit - a.cursor).toNat else 0

/-- The provisional byte count of the next frame (R89, R94). -/
def Attachment.frameBytes (a : Attachment) (r : Ring) : Nat :=
  min (a.sendable r) Config.dataBytes

/-- The provisional end of the next frame (R94). -/
def Attachment.frameEnd (a : Attachment) (r : Ring) : Pos :=
  a.cursor + BitVec.ofNat 32 (a.frameBytes r)

/-- The candidate marks of the next frame (R94), which are the deliverable marks of R89. -/
def Attachment.candidates (a : Attachment) (r : Ring) : List Mark :=
  r.marks.filter fun m =>
    markAtOrBefore a.nextMark m.number && atOrBefore m.position (a.frameEnd r)

def StatusFlags.none : StatusFlags := ⟨false, false, false, false, false⟩

def StatusFlags.any (f : StatusFlags) : Bool :=
  f.roleChange || f.preempted || f.idleDemoted || f.waitPlace || f.inputReport

/-- The session has undelivered content (R89). -/
def Attachment.content (a : Attachment) (r : Ring) : Bool :=
  1 ≤ a.sendable r || !(a.candidates r).isEmpty || a.flags.any || a.markLoss

/-- The gather timer after the content test of R90. -/
def Attachment.gatherTest (a : Attachment) (r : Ring) : Attachment :=
  if a.content r then
    match a.gather with
    | .stopped => { a with gather := .running a.gatherTime }
    | _ => a
  else { a with gather := .stopped }

/-- The session is ready (R91). -/
def Attachment.ready (a : Attachment) (r : Ring) : Bool :=
  Config.dataBytes ≤ a.sendable r || a.gather == .expired

/-- The content test of R90 made for every session attached to a port. -/
def State.testContent (p : PortId) (s : State) : State :=
  s.mapAttached p (·.gatherTest (s.port p).ring)

/-! ### Marks, stored bytes and emptied rings -/

/-- Writing a mark on a port (R49), and the content test that follows (R90). -/
def writeMark (p : PortId) (kind : MarkKind) (arg : Word16) (s : State) : State :=
  let r := (s.port p).ring
  let r' := r.addMark kind arg
  let s' := s.setRing p r'
  (if Config.maxMarks ≤ r.marks.length then s'.mapAttached p (·.syncMarks r'.reference)
   else s').testContent p

/-- What the advance of the oldest does to one session: it is moved on (R46), and brought up to date
where marks were removed (R50, R51). -/
def Attachment.oldestAdvanced (old : Pos) (removed : Bool) (reference : MarkNo) (a : Attachment) :
    Attachment :=
  if removed then (a.overtaken old).syncMarks reference else a.overtaken old

/-- Steps 1 to 5 of R45: the byte is placed in the ring, overtaken cursors are moved (R46) and marks
that precede the oldest are removed (R50, R51); the content test follows (R90). -/
def storeByte (p : PortId) (b : Byte) (s : State) : State :=
  let q := s.port p
  let r' := q.ring.store q.capacity b
  let removed := decide (r'.marks.length < q.ring.marks.length)
  let s' := s.setRing p r'
  (if q.ring.held.length < q.capacity then s'
   else s'.mapAttached p (·.oldestAdvanced q.ring.oldest removed r'.reference)).testContent p

/-- The emptying of one port's ring by an ALLOCATE that gives it n blocks (R43), and the content test
(R90). -/
def emptyRing (p : PortId) (n : Nat) (s : State) : State :=
  let r' := (s.port p).ring.emptied
  let s := s.modPort p fun q => { q with alloc := n, ring := r' }
  ((s.mapAttached p (·.ringEmptied r'.head)).mapAttached p (·.syncMarks r'.reference)).testContent p

/-! ### Causes and the notice queue (R160 to R164) -/

/-- The codes of R182. -/
def Cause.code : Cause → Nat
  | .lineDead => 0x01
  | .rateUnmatched => 0x02
  | .keyinFailed => 0x03
  | .imageFault => 0x04
  | .saveFailed => 0x05
  | .lineLive => 0x10
  | .breakRx => 0x11
  | .rateSet => 0x12
  | .patternMatch => 0x13
  | .compare => 0x14
  | .keyinDone => 0x15
  | .pulseDone => 0x16
  | .senseChange => 0x17
  | .writerChange => 0x18
  | .sessionTimeout => 0x19
  | .saveDone => 0x1A

/-- The cause is of event class (R160). -/
def Cause.isEvent (c : Cause) : Bool := 0x10 ≤ c.code

/-- The raise is not discarded under the mask (R161). -/
def admitted (mask : Word32) (c : Cause) : Bool :=
  !c.isEvent || mask.getLsbD (c.code - 0x10)

/-- The record has the cause, port and argument of the raise (R163). -/
def NoticeRecord.sameKey (n m : NoticeRecord) : Bool :=
  n.cause == m.cause && n.port == m.port && n.arg == m.arg

/-- A raise taken into a queued record (R163). -/
def NoticeRecord.collapse (n raised : NoticeRecord) : NoticeRecord :=
  { n with
    count := if n.count < 255 then n.count + 1 else n.count
    portState := raised.portState
    sense := raised.sense }

/-- R163 for a raise that R161 does not discard: `n` is the record it would create. -/
def NoticeUnit.take (n : NoticeRecord) (u : NoticeUnit) : NoticeUnit :=
  if u.queue.any (·.sameKey n) then
    { u with queue := u.queue.map fun m => if m.sameKey n then m.collapse n else m }
  else if u.queue.length < Config.noticeRecords then
    { u with queue := u.queue ++ [n] }
  else
    { u with overflow := true }

/-- The record a raise creates: the snapshot of the port at that moment (R162). -/
def State.noticeOf (s : State) (c : Cause) (port : Option PortId) (arg : Word16) : NoticeRecord where
  cause := c
  port := port
  arg := arg
  first := match port with
    | some p => (s.port p).ring.head
    | none => 0
  count := 1
  portState := port.map fun p => (s.port p).state
  sense := match port with
    | some p => if (s.port p).active.auxB = .sense then some (s.port p).sense.active else none
    | none => none

/-- Raising a cause (R160, R161, R163). -/
def raise (c : Cause) (port : Option PortId) (arg : Word16) (s : State) : State :=
  if admitted s.notice.mask c then
    { s with notice := s.notice.take (s.noticeOf c port arg) }
  else s

/-! ### The uplink counters (R181) -/

def State.countUplink (f : UplinkCounters → UplinkCounters) (s : State) : State :=
  { s with uplink := { s.uplink with counters := f s.uplink.counters } }

def UplinkCounters.countOk (c : UplinkCounters) : UplinkCounters := { c with rxOk := satInc c.rxOk }
def UplinkCounters.countFull (c : UplinkCounters) : UplinkCounters := { c with rxFull := satInc c.rxFull }
def UplinkCounters.countBadFcs (c : UplinkCounters) : UplinkCounters :=
  { c with rxBadFcs := satInc c.rxBadFcs }
def UplinkCounters.countNotMine (c : UplinkCounters) : UplinkCounters :=
  { c with rxNotMine := satInc c.rxNotMine }
def UplinkCounters.countStale (c : UplinkCounters) : UplinkCounters := { c with rxStale := satInc c.rxStale }
def UplinkCounters.countMalformed (c : UplinkCounters) : UplinkCounters :=
  { c with rxMalformed := satInc c.rxMalformed }
def UplinkCounters.countSent (c : UplinkCounters) : UplinkCounters := { c with txFrames := satInc c.txFrames }

end Sys2Proof.Machine
end

