-- ==== Sys2Proof/Machine/Flags.lean ====
section
/-! DEFINITION. The settling of every gather timer after a command (R90), and the passing of time. -/

namespace Sys2Proof.Machine

/-- The content test of R90 made for every attached session: every command ends with it, whatever it
changed (DEDUCED, safe; assumption 21). -/
def settle (s : State) : State :=
  { s with sessions :=
      tabMap (Session.mapAttachment fun a => a.gatherTest (s.port a.port).ring) s.sessions }

/-! ### The passing of time -/

/-- One millisecond less on a running timer; a timer at 0 waits for its expiry. -/
def tickTimer (t : Option Nat) : Option Nat := t.map (· - 1)

def GatherTimer.tick : GatherTimer → GatherTimer
  | .running n => .running (n - 1)
  | g => g

def Port.tick (q : Port) : Port :=
  { q with
    detector := { q.detector with timer := tickTimer q.detector.timer }
    qualTimer := tickTimer q.qualTimer
    pulse := tickTimer q.pulse
    sense := { q.sense with timer := tickTimer q.sense.timer } }

def Attachment.tick (a : Attachment) : Attachment :=
  { a with gather := a.gather.tick, writerIdle := tickTimer a.writerIdle }

def Session.tick (x : Session) : Session :=
  { x with live := x.live.map fun l =>
      { l with idle := l.idle - 1, attachment := l.attachment.map (·.tick) } }

def KeyinEntry.tick (w : KeyinEntry) : KeyinEntry :=
  match w.state with
  | .running r => { w with state := .running { r with interval := tickTimer r.interval } }
  | _ => w

/-- One millisecond of the timebase passes: every running timer holds one less (DESIGN CHOICE, unsafe;
assumption 4). An expiry is a command of its own (DESIGN CHOICE, safe; assumption 6). -/
def tick (s : State) : State :=
  { s with
    ports := tabMap Port.tick s.ports
    sessions := tabMap Session.tick s.sessions
    keyins := tabMap KeyinEntry.tick s.keyins
    notice := { s.notice with timer := tickTimer s.notice.timer } }

end Sys2Proof.Machine
end

