-- ==== Sys2Proof/Machine/SessionOps.lean ====
section
/-! DEFINITION. The writer and the wait list (R72 to R79), the closing procedure (R65), placing a
cursor (R52, R68), and resolving a station (R58). -/

namespace Sys2Proof.Machine

def allSlots : List SlotId := List.finRange 64

def allStations : List StationId := List.finRange 16

/-! ### The Station Table (R58, R61) -/

/-- Entry 0 is the commissioning wildcard (R61). -/
def State.isWildcard (s : State) (e : StationId) : Bool := s.commissioning && e == 0

/-- The entry names a station by its address: it is valid, and no wildcard. -/
def State.names (s : State) (e : StationId) (m : Mac) : Bool :=
  (s.station e).valid && !s.isWildcard e && (s.station e).address == m

/-- The entry a frame resolves to by its source address, or none (R58). -/
def State.resolve (s : State) (m : Mac) : Option StationId :=
  match allStations.find? fun e => s.names e m with
  | some e => some e
  | none => if s.commissioning then some 0 else none

/-- The commissioning wildcard (R61). -/
def Station.wildcard : Station where
  valid := true
  address := 0
  rank := 7
  ports := BitVec.allOnes 32
  limit := 8
  rights := ⟨true, true, true⟩

/-- The session is not FREE and is of the entry (R59, R60, R64). -/
def Session.ofStation (x : Session) (e : StationId) : Bool :=
  match x.live with
  | some l => l.station == e
  | none => false

/-- The number of sessions of an entry that are not FREE (R60, R64). -/
def State.sessionCount (s : State) (e : StationId) : Nat :=
  allSlots.countP fun k => (s.session k).ofStation e

/-! ### Status flags (R79) -/

def setRoleChange (k : SlotId) (s : State) : State :=
  s.modAttachment k fun a => { a with flags := { a.flags with roleChange := true } }

def setPreempted (k : SlotId) (s : State) : State :=
  s.modAttachment k fun a => { a with flags := { a.flags with preempted := true } }

def setIdleDemoted (k : SlotId) (s : State) : State :=
  s.modAttachment k fun a => { a with flags := { a.flags with idleDemoted := true } }

def setWaitPlace (k : SlotId) (s : State) : State :=
  s.modAttachment k fun a => { a with flags := { a.flags with waitPlace := true } }

/-! ### The writer (R76 to R78) -/

/-- Step 2 of R78 for the old writer's record. -/
def Attachment.stopWriting (a : Attachment) : Attachment :=
  { a with writerIdle := none, flags := { a.flags with roleChange := true } }

/-- The writer idle timer as it starts (R78, R81): none where the limit is 0. -/
def State.freshWriterIdle (s : State) : Option Nat :=
  if s.writerLimit = 0 then none else some (s.writerLimit * 1000)

/-- Step 3 of R78 for the new writer's record. -/
def Attachment.startWriting (idle : Option Nat) (a : Attachment) : Attachment :=
  { a with
    ip := 0
    lastInput := .ok
    writerIdle := idle
    flags := { a.flags with roleChange := true } }

/-- The argument of a WRITER mark and a WRITER_CHANGE cause (R78). -/
def writerArgument : Option SlotId → Word16
  | some k => BitVec.ofNat 16 k.val
  | none => 255

/-- A writer change on a port (R78). -/
def writerChange (p : PortId) (old new : Option SlotId) (s : State) : State :=
  let s := s.modPort p fun q => { q with queue := [], writer := new }
  let s := match old with
    | some a => s.modAttachment a Attachment.stopWriting
    | none => s
  let s := match new with
    | some b => s.modAttachment b (Attachment.startWriting s.freshWriterIdle)
    | none => s
  raise .writerChange (some p) (writerArgument new) (writeMark p .writer (writerArgument new) s)

/-- A session leaves a wait list, and the sessions below it move up and are flagged (R74). -/
def leaveWaitList (p : PortId) (k : SlotId) (s : State) : State :=
  let w := (s.port p).waitList
  if k ∈ w then
    forEach (w.drop (w.idxOf k + 1)) setWaitPlace
      (s.modPort p fun q => { q with waitList := w.erase k })
  else s

/-- The writer of a port is released (R77): the head of the wait list is promoted, or there is none. -/
def releaseWriter (p : PortId) (s : State) : State :=
  let old := (s.port p).writer
  match (s.port p).waitList with
  | h :: _ => writerChange p old (some h) (leaveWaitList p h s)
  | [] => writerChange p old none s

/-- The rank of a session (R62); a FREE slot has none and counts as 0. -/
def State.rankOf (s : State) (k : SlotId) : Nat :=
  match (s.session k).live with
  | some l => l.rank
  | none => 0

/-- A session joins a wait list that has room, at the place its rank gives (R73). -/
def joinWaitList (p : PortId) (k : SlotId) (s : State) : State :=
  let w := (s.port p).waitList
  let ahead := w.takeWhile fun j => s.rankOf k ≤ s.rankOf j
  let behind := w.dropWhile fun j => s.rankOf k ≤ s.rankOf j
  forEach behind setWaitPlace (s.modPort p fun q => { q with waitList := ahead ++ k :: behind })

/-- Preemption (R76). -/
def preempt (p : PortId) (w k : SlotId) (s : State) : State :=
  setPreempted w (writerChange p (some w) (some k) s)

/-! ### Ending an attachment and closing (R65, R71) -/

/-- Steps 1 and 2 of R65 and of R71: the writer is released, or the wait list left. -/
def leavePort (k : SlotId) (s : State) : State :=
  match (s.session k).attachment with
  | none => s
  | some a =>
    let s := if (s.port a.port).writer = some k then releaseWriter a.port s else s
    leaveWaitList a.port k s

/-- Step 3 of R65: the attachment ends. -/
def Session.detached (x : Session) : Session :=
  { x with live := x.live.map fun l => { l with attachment := none } }

/-- The attachment of a session ended (R71). -/
def detachSession (k : SlotId) (s : State) : State :=
  (leavePort k s).modSession k Session.detached

/-- The closing procedure (R65). -/
def closeSession (k : SlotId) (s : State) : State :=
  (leavePort k s).modSession k fun x => { x with live := none }

/-! ### Placing a cursor (R68, R88) -/

/-- A start or a SEEK target (R67, R88). -/
inductive Target where
  | oldest | head
  | position (p : Pos)
  deriving DecidableEq, Repr

/-- The given position lies in the ring (R68). -/
def Ring.covers (r : Ring) (p : Pos) : Bool :=
  atOrBefore r.oldest p && atOrBefore p r.head

/-- The cursor a target gives, and whether it was clamped (step 1 of R68). The head is tested before the
oldest (DEDUCED, unsafe; assumption 19). -/
def Ring.placeCursor (r : Ring) : Target → Pos × Bool
  | .oldest => (r.oldest, false)
  | .head => (r.head, false)
  | .position p =>
    if r.covers p then (p, false)
    else if precedes r.head p then (r.head, true)
    else (r.oldest, true)

/-- The attachment R68 gives a session. -/
def Attachment.placed (p : PortId) (r : Ring) (t : Target) (credit gather : Nat) : Attachment where
  port := p
  cursor := (r.placeCursor t).1
  credit := (r.placeCursor t).1 + BitVec.ofNat 32 credit
  nextMark := r.search (r.placeCursor t).1
  lost := 0
  markLoss := false
  gatherTime := if gather = 0 then Config.defaultGather else gather
  gather := .stopped
  ip := 0
  lastInput := .ok
  flags := .none
  writerIdle := none

/-- Placing a session on a port (R68). -/
def placeSession (k : SlotId) (p : PortId) (t : Target) (credit gather : Nat) (s : State) : State :=
  s.modSession k fun x =>
    { x with live := x.live.map fun l =>
        { l with attachment := some (.placed p (s.port p).ring t credit gather) } }

end Sys2Proof.Machine
end

