-- ==== Sys2Proof/Machine/Wire.lean ====
section
/-! DEFINITION. The layouts of R182, outward: numbers and records as bytes, the codes of the
enumerated fields, table entries as their writes would give them, and frames. What R182 leaves to be
read together with other rules is read as assumption 22 says (DEDUCED, unsafe). -/

namespace Sys2Proof.Machine

/-! ### Numbers and lists -/

/-- The k bytes of a number, most significant first (R182). -/
def bytesOf : Nat → Nat → List Byte
  | 0, _ => []
  | k + 1, n => BitVec.ofNat 8 (n / 256 ^ k) :: bytesOf k n

/-- A flag: one byte, 0 or 1. -/
def flagByte (b : Bool) : Nat := if b then 1 else 0

def encFlag (b : Bool) : List Byte := bytesOf 1 (flagByte b)

def encPos (p : Pos) : List Byte := bytesOf 4 p.toNat

def encMac (m : Mac) : List Byte := bytesOf 6 m.toNat

/-- A list whose length varies: a one-byte count, then the members. -/
def encList (members : List (List Byte)) : List Byte := bytesOf 1 members.length ++ members.flatten

/-- An optional field that fills its width: a flag, then the field or 0. -/
def encOption (k : Nat) (x : Option Nat) : List Byte := encFlag x.isSome ++ bytesOf k (x.getD 0)

/-- An absent one-byte field is 0xFF. -/
def encByteOr (x : Option Nat) : List Byte := bytesOf 1 (x.getD 0xFF)

/-! ### Codes -/

def PortState.code : PortState → Nat
  | .disabled => 0 | .switching => 1 | .detecting => 2 | .live => 3 | .dead => 4

def MarkKind.code : MarkKind → Nat
  | .breakRx => 1 | .dead => 2 | .live => 3 | .rateSet => 4 | .patternMatch => 5 | .pulseStart => 6
  | .pulseEnd => 7 | .sense => 8 | .keyinStart => 9 | .keyinEnd => 10 | .writer => 11 | .switch => 12

def Result.code : Result → Nat
  | .ok => 0 | .clamped => 1 | .refusedAccess => 2 | .noSlot => 3 | .limit => 4 | .inUse => 5
  | .busy => 6 | .full => 7 | .range => 8 | .notWriter => 9 | .portDisabled => 10
  | .pulseActive => 11 | .saveActive => 12 | .unknownKind => 13

/-- The last input status uses the result codes, and GAP is 14. -/
def InputStatus.code : InputStatus → Nat
  | .ok => 0 | .full => 7 | .gap => 14 | .notWriter => 9 | .portDisabled => 10

def RateMode.code : RateMode → Nat
  | .fixed => 0 | .auto => 1

def DataBits.code : DataBits → Nat
  | .seven => 7 | .eight => 8

def Parity.code : Parity → Nat
  | .none => 0 | .even => 1 | .odd => 2 | .mark => 3 | .space => 4

def StopBits.code : StopBits → Nat
  | .one => 1 | .two => 2

def Flow.code : Flow → Nat
  | .none => 0 | .cts => 1

def AuxA.code : AuxA → Nat
  | .none => 0 | .resetLow => 1 | .resetHigh => 2

def AuxB.code : AuxB → Nat
  | .none => 0 | .sense => 1 | .cts => 2

def CounterId.code : CounterId → Nat
  | .rxb => 0 | .txb => 1 | .fer => 2 | .per => 3 | .brk => 4 | .una => 5 | .mat => 6 | .deads => 7

def Method.code : Method → Nat
  | .eq => 0 | .ge => 1 | .lt => 2

def Rearm.code : Rearm → Nat
  | .every => 0 | .once => 1

def KeyinState.code : KeyinState → Nat
  | .idle => 0 | .armed => 1 | .pending => 2 | .running _ => 3

def Rights.code (r : Rights) : Nat :=
  flagByte r.manage + 2 * flagByte r.pulse + 4 * flagByte r.keyin

def StatusFlags.code (f : StatusFlags) : Nat :=
  flagByte f.roleChange + 2 * flagByte f.preempted + 4 * flagByte f.idleDemoted +
    8 * flagByte f.waitPlace + 16 * flagByte f.inputReport

/-- Roles are WATCH 0, WRITE 1. -/
def roleCode (writer : Bool) : Nat := flagByte writer

/-- An action record: kind, then argument. -/
def Action.raw : Action → RawPair
  | .none => ⟨0, 0⟩
  | .hold => ⟨1, 0⟩
  | .release => ⟨2, 0⟩
  | .pulse => ⟨3, 0⟩
  | .stage => ⟨4, 0⟩
  | .keyin e => ⟨5, e.val⟩
  | .stopKeyin => ⟨6, 0⟩

/-- A trigger: kind, then argument. -/
def Trigger.raw : Trigger → RawPair
  | .request => ⟨0, 0⟩
  | .patternMatch i => ⟨1, i.val⟩
  | .compare i => ⟨2, i.val⟩
  | .pulseEnd => ⟨3, 0⟩
  | .live => ⟨4, 0⟩
  | .senseOn => ⟨5, 0⟩
  | .after e => ⟨6, e.val⟩

/-! ### Table entries as their writes would give them (R183) -/

def Profile.raw (f : Profile) : RawProfile where
  enable := flagByte f.enable
  rateMode := f.rateMode.code
  fixedRate := f.fixedRate
  rateList := f.rateList
  tolerance := f.tolerance
  runsNeeded := f.runsNeeded
  detectWindow := f.detectWindow
  redetect := flagByte f.redetect
  dataBits := f.dataBits.code
  parity := f.parity.code
  stopBits := f.stopBits.code
  flow := f.flow.code
  breakThreshold := f.breakThreshold
  deadThreshold := f.deadThreshold
  liveQual := f.liveQual
  auxA := f.auxA.code
  auxB := f.auxB.code
  pulseDuration := f.pulseDuration
  sensePeriod := f.sensePeriod
  senseAgree := f.senseAgree
  txBreak := f.txBreak

def Station.raw (e : Nat) (w : Station) : StationWrite where
  entry := e
  valid := flagByte w.valid
  address := w.address
  rank := w.rank
  ports := w.ports
  limit := w.limit
  rights := w.rights.code

/-- An invalid entry is sent as invalid with no bytes (R106, R109), and with every other field at 0
(DESIGN CHOICE, unsafe; assumption 35). -/
def PatternEntry.raw (i : Nat) (e : PatternEntry) : PatternWrite :=
  match e.pattern with
  | none =>
    { entry := i, valid := 0, bytes := [], wildFlag := 0, wild := 0, caseFold := 0, ports := 0,
      rearm := 0, markFlag := 0, action := ⟨0, 0⟩ }
  | some t =>
    { entry := i, valid := 1, bytes := t.bytes, wildFlag := flagByte t.wildcard.isSome,
      wild := t.wildcard.getD 0, caseFold := flagByte t.caseFold, ports := t.ports,
      rearm := t.rearm.code, markFlag := flagByte t.markFlag, action := t.action.raw }

def Comparator.raw (i : Nat) (c : Comparator) : ComparatorWrite where
  entry := i
  enable := flagByte c.enable
  port := c.port.val
  counter := c.counter.code
  method := c.method.code
  value := c.value
  action := c.action.raw

def KeyinEntry.raw (e : Nat) (w : KeyinEntry) : KeyinWrite where
  entry := e
  port := w.port.val
  preBreak := w.preBreak
  string := w.string
  repeats := w.repeats
  interval := w.interval
  stopPattern := match w.stopPattern with
    | some i => i.val
    | none => 0xFF
  trigger := w.trigger.raw
  autoArm := flagByte w.autoArm
  rearm := flagByte w.rearm

/-- All seven settings (R178). -/
def State.rawSettings (s : State) : RawSettings where
  address := s.uplink.address
  frameType := s.uplink.frameType.toNat
  destination := s.notice.destination.getD 0
  mask := s.notice.mask
  holdoff := s.notice.holdoff
  sessionLimit := s.sessionLimit
  writerLimit := s.writerLimit

/-! ### Records as bytes: each field at the width of R182, in the order its rule lists it -/

def encPair (a : RawPair) : List Byte := bytesOf 1 a.kind ++ bytesOf 1 a.arg

def encProfile (r : RawProfile) : List Byte :=
  bytesOf 1 r.enable ++ bytesOf 1 r.rateMode ++ bytesOf 3 r.fixedRate ++
  encList (r.rateList.map (bytesOf 3)) ++ bytesOf 1 r.tolerance ++ bytesOf 1 r.runsNeeded ++
  bytesOf 2 r.detectWindow ++ bytesOf 1 r.redetect ++ bytesOf 1 r.dataBits ++ bytesOf 1 r.parity ++
  bytesOf 1 r.stopBits ++ bytesOf 1 r.flow ++ bytesOf 2 r.breakThreshold ++
  bytesOf 2 r.deadThreshold ++ bytesOf 2 r.liveQual ++ bytesOf 1 r.auxA ++ bytesOf 1 r.auxB ++
  bytesOf 2 r.pulseDuration ++ bytesOf 2 r.sensePeriod ++ bytesOf 1 r.senseAgree ++
  bytesOf 2 r.txBreak

/-- A staged profile is preceded by a flag. -/
def encStaged : Option RawProfile → List Byte
  | none => encFlag false
  | some r => encFlag true ++ encProfile r

/-- The six fields of a station entry (R57). -/
def encStation (w : StationWrite) : List Byte :=
  bytesOf 1 w.valid ++ encMac w.address ++ bytesOf 1 w.rank ++ bytesOf 4 w.ports.toNat ++
  bytesOf 1 w.limit ++ bytesOf 1 w.rights

def encPattern (w : PatternWrite) : List Byte :=
  bytesOf 1 w.valid ++ encList (w.bytes.map fun b => [b]) ++ bytesOf 1 w.wildFlag ++ [w.wild] ++
  bytesOf 1 w.caseFold ++ bytesOf 4 w.ports.toNat ++ bytesOf 1 w.rearm ++ bytesOf 1 w.markFlag ++
  encPair w.action

def encComparator (w : ComparatorWrite) : List Byte :=
  bytesOf 1 w.enable ++ bytesOf 1 w.port ++ bytesOf 1 w.counter ++ bytesOf 1 w.method ++
  bytesOf 4 w.value.toNat ++ encPair w.action

def encKeyin (w : KeyinWrite) : List Byte :=
  bytesOf 1 w.port ++ bytesOf 2 w.preBreak ++ encList (w.string.map fun b => [b]) ++
  bytesOf 1 w.repeats ++ bytesOf 2 w.interval ++ bytesOf 1 w.stopPattern ++ encPair w.trigger ++
  bytesOf 1 w.autoArm ++ bytesOf 1 w.rearm

def encSettings (r : RawSettings) : List Byte :=
  encMac r.address ++ bytesOf 2 r.frameType ++ encMac r.destination ++ bytesOf 4 r.mask.toNat ++
  bytesOf 2 r.holdoff ++ bytesOf 2 r.sessionLimit ++ bytesOf 2 r.writerLimit

/-! ### The bytes of the image (R183) -/

/-- The kinds of record, numbered for `Config.recordKind`. -/
def recordKindNumber : ImageRecord → Nat
  | .settings _ => 0
  | .allocation _ => 1
  | .station _ => 2
  | .profile _ _ => 3
  | .pattern _ => 4
  | .comparator _ => 5
  | .keyin _ => 6

/-- The fields the matching MANAGE write would give, laid out as R182 lays them out (assumption 26). -/
def recordFields : ImageRecord → List Byte
  | .settings r => encSettings r
  | .allocation blocks => blocks.flatMap (bytesOf 1)
  | .station w => bytesOf 1 w.entry ++ encStation w
  | .profile port r => bytesOf 1 port ++ bytesOf 1 0 ++ encProfile r
  | .pattern w => bytesOf 1 w.entry ++ encPattern w
  | .comparator w => bytesOf 1 w.entry ++ encComparator w
  | .keyin w => bytesOf 1 w.entry ++ encKeyin w

/-- The bytes of a record: its kind, then its fields. -/
def recordBytes (r : ImageRecord) : List Byte :=
  Config.recordKind (recordKindNumber r) :: recordFields r

/-- The bytes of the records of an image. -/
def imageBytes (records : List ImageRecord) : List Byte := records.flatMap recordBytes

/-- The sum of bytes, modulo 65,536. -/
def byteSum (bs : List Byte) : Word16 := bs.foldl (fun n b => n + b.setWidth 16) 0

/-! ### Marks, notices and counters -/

def encMark (m : Mark) : List Byte :=
  bytesOf 2 m.number.toNat ++ encPos m.position ++ bytesOf 1 m.kind.code ++ bytesOf 2 m.arg.toNat

/-- A notice record of R182: an absent port state or sense level is 0xFF, and the port of the whole
part is 255. -/
def encNotice (n : NoticeRecord) : List Byte :=
  bytesOf 1 n.cause.code ++ encByteOr (n.port.map Fin.val) ++ bytesOf 2 n.arg.toNat ++
  encPos n.first ++ bytesOf 1 n.count ++ encByteOr (n.portState.map (·.code)) ++
  encByteOr (n.sense.map flagByte) ++ [0]

def encUplinkCounters (c : UplinkCounters) : List Byte :=
  [c.rxOk, c.rxFull, c.rxBadFcs, c.rxNotMine, c.rxStale, c.rxMalformed, c.txFrames].flatMap
    fun w => bytesOf 4 w.toNat

/-! ### Frames -/

/-- The header of a frame (R182). -/
def encHeader (kind slot generation : Byte) (bodyLength : Nat) (tag : Word16) : List Byte :=
  [1, kind, slot, generation] ++ bytesOf 2 bodyLength ++ bytesOf 2 tag.toNat

/-- A data field padded with zero bytes to 46 (R182). -/
def padded (data : List Byte) : List Byte := data ++ List.replicate (46 - data.length) 0

/-- The data field of a frame: header, body and padding. -/
def frameData (kind slot generation : Byte) (tag : Word16) (body : List Byte) : List Byte :=
  padded (encHeader kind slot generation body.length tag ++ body)

/-- The data field of a REPLY (R174, R182). -/
def Reply.data (r : Reply) : List Byte :=
  frameData 0x81 r.slot r.generation r.tag
    ([r.kind] ++ bytesOf 1 r.result.code ++ [r.op.getD 0xFF, 0] ++ r.values)

/-- The contents of a DATA frame (R94, R95). -/
structure DataFrame where
  slot       : SlotId
  generation : Byte
  start      : Pos
  bytes      : List Byte
  marks      : List Mark
  port       : PortId
  writer     : Bool
  waitPlace  : Option Nat
  lastInput  : InputStatus
  flags      : StatusFlags
  portState  : PortState
  hold       : Bool
  markLoss   : Bool
  ip         : Word32
  lost       : Word32
  head       : Pos
  credit     : Pos
  deriving DecidableEq, Repr

/-- The data field of a DATA frame (R182). -/
def DataFrame.data (f : DataFrame) : List Byte :=
  frameData 0x82 (BitVec.ofNat 8 f.slot.val) f.generation 0
    (encPos f.start ++ bytesOf 2 f.bytes.length ++ bytesOf 1 f.marks.length ++
     bytesOf 1 f.port.val ++ bytesOf 1 (roleCode f.writer) ++ encByteOr f.waitPlace ++
     bytesOf 1 f.lastInput.code ++ bytesOf 1 f.flags.code ++
     bytesOf 1 (f.portState.code + 8 * flagByte f.hold + 16 * flagByte f.markLoss) ++ [0, 0, 0] ++
     bytesOf 4 f.ip.toNat ++ bytesOf 4 f.lost.toNat ++ encPos f.head ++ encPos f.credit ++
     f.marks.flatMap encMark ++ f.bytes)

/-- The contents of a NOTICE frame (R167). -/
structure NoticeFrame where
  sequence  : Word16
  records   : List NoticeRecord
  overflow  : Bool
  remaining : Nat
  deriving DecidableEq, Repr

/-- The data field of a NOTICE frame (R182). -/
def NoticeFrame.data (f : NoticeFrame) : List Byte :=
  frameData 0x83 0 0 0
    (bytesOf 2 f.sequence.toNat ++ bytesOf 1 f.records.length ++ encFlag f.overflow ++
     bytesOf 1 f.remaining ++ [0] ++ f.records.flatMap encNotice)

/-- A frame handed to the PHY: the station address as its source, the configured frame type, both as
they are now, and counted in TX_FRAMES (R92, R174, R181). -/
def sendFrame (dest : Mac) (data : List Byte) (s : State) : State :=
  { s with uplink :=
      { s.uplink with
        counters := s.uplink.counters.countSent
        sent := some { dest := dest, source := s.uplink.address, type := s.uplink.frameType,
                       data := data } } }

end Sys2Proof.Machine
end

