-- ==== Sys2Proof/Machine/Operands.lean ====
section
/-! DEFINITION. The layouts of R182, inward: reading the fields of a request from a frame's body
(R173, R182), and the checks that turn the fields of a write into a table entry or refuse it (R3,
R59, R107, R131, R139, R178). A value outside its encoding is outside its range and refused (R175, R182),
also where the rule's own list does not name the field (DEDUCED, unsafe; assumption 23). The layouts are
of assumption 22. -/

namespace Sys2Proof.Machine

/-! ### Reading fields -/

/-- The number that bytes spell, most significant first. -/
def natOf (bs : List Byte) : Nat := bs.foldl (fun n b => n * 256 + b.toNat) 0

/-- The next k bytes, and the rest. -/
def readBytes (k : Nat) (bs : List Byte) : Option (List Byte × List Byte) :=
  if k ≤ bs.length then some (bs.take k, bs.drop k) else none

/-- The next k bytes as a number, and the rest. -/
def readNat (k : Nat) (bs : List Byte) : Option (Nat × List Byte) :=
  if k ≤ bs.length then some (natOf (bs.take k), bs.drop k) else none

/-- The next n numbers of k bytes each. -/
def readNats (k : Nat) : Nat → List Byte → Option (List Nat × List Byte)
  | 0, bs => some ([], bs)
  | n + 1, bs => do
    let (x, bs) ← readNat k bs
    let (xs, bs) ← readNats k n bs
    some (x :: xs, bs)

/-- A list of bytes: a one-byte count, then the members. -/
def readString (bs : List Byte) : Option (List Byte × List Byte) := do
  let (n, bs) ← readNat 1 bs
  readBytes n bs

/-- A two-byte record: kind, then argument. -/
def readPair (bs : List Byte) : Option (RawPair × List Byte) := do
  let (k, bs) ← readNat 1 bs
  let (a, bs) ← readNat 1 bs
  some (⟨k, a⟩, bs)

/-- The fields of a profile, in the order of R2. -/
def readProfile (bs : List Byte) : Option (RawProfile × List Byte) := do
  let (enable, bs) ← readNat 1 bs
  let (rateMode, bs) ← readNat 1 bs
  let (fixedRate, bs) ← readNat 3 bs
  let (n, bs) ← readNat 1 bs
  let (rateList, bs) ← readNats 3 n bs
  let (tolerance, bs) ← readNat 1 bs
  let (runsNeeded, bs) ← readNat 1 bs
  let (detectWindow, bs) ← readNat 2 bs
  let (redetect, bs) ← readNat 1 bs
  let (dataBits, bs) ← readNat 1 bs
  let (parity, bs) ← readNat 1 bs
  let (stopBits, bs) ← readNat 1 bs
  let (flow, bs) ← readNat 1 bs
  let (breakThreshold, bs) ← readNat 2 bs
  let (deadThreshold, bs) ← readNat 2 bs
  let (liveQual, bs) ← readNat 2 bs
  let (auxA, bs) ← readNat 1 bs
  let (auxB, bs) ← readNat 1 bs
  let (pulseDuration, bs) ← readNat 2 bs
  let (sensePeriod, bs) ← readNat 2 bs
  let (senseAgree, bs) ← readNat 1 bs
  let (txBreak, bs) ← readNat 2 bs
  some ({ enable, rateMode, fixedRate, rateList, tolerance, runsNeeded, detectWindow, redetect,
          dataBits, parity, stopBits, flow, breakThreshold, deadThreshold, liveQual, auxA, auxB,
          pulseDuration, sensePeriod, senseAgree, txBreak }, bs)

def readStation (bs : List Byte) : Option (StationWrite × List Byte) := do
  let (entry, bs) ← readNat 1 bs
  let (valid, bs) ← readNat 1 bs
  let (address, bs) ← readNat 6 bs
  let (rank, bs) ← readNat 1 bs
  let (ports, bs) ← readNat 4 bs
  let (limit, bs) ← readNat 1 bs
  let (rights, bs) ← readNat 1 bs
  some ({ entry, valid, address := BitVec.ofNat 48 address, rank,
          ports := BitVec.ofNat 32 ports, limit, rights }, bs)

def readPattern (bs : List Byte) : Option (PatternWrite × List Byte) := do
  let (entry, bs) ← readNat 1 bs
  let (valid, bs) ← readNat 1 bs
  let (bytes, bs) ← readString bs
  let (wildFlag, bs) ← readNat 1 bs
  let (wild, bs) ← readNat 1 bs
  let (caseFold, bs) ← readNat 1 bs
  let (ports, bs) ← readNat 4 bs
  let (rearm, bs) ← readNat 1 bs
  let (markFlag, bs) ← readNat 1 bs
  let (action, bs) ← readPair bs
  some ({ entry, valid, bytes, wildFlag, wild := BitVec.ofNat 8 wild, caseFold,
          ports := BitVec.ofNat 32 ports, rearm, markFlag, action }, bs)

def readComparator (bs : List Byte) : Option (ComparatorWrite × List Byte) := do
  let (entry, bs) ← readNat 1 bs
  let (enable, bs) ← readNat 1 bs
  let (port, bs) ← readNat 1 bs
  let (counter, bs) ← readNat 1 bs
  let (method, bs) ← readNat 1 bs
  let (value, bs) ← readNat 4 bs
  let (action, bs) ← readPair bs
  some ({ entry, enable, port, counter, method, value := BitVec.ofNat 32 value, action }, bs)

def readKeyin (bs : List Byte) : Option (KeyinWrite × List Byte) := do
  let (entry, bs) ← readNat 1 bs
  let (port, bs) ← readNat 1 bs
  let (preBreak, bs) ← readNat 2 bs
  let (string, bs) ← readString bs
  let (repeats, bs) ← readNat 1 bs
  let (interval, bs) ← readNat 2 bs
  let (stopPattern, bs) ← readNat 1 bs
  let (trigger, bs) ← readPair bs
  let (autoArm, bs) ← readNat 1 bs
  let (rearm, bs) ← readNat 1 bs
  some ({ entry, port, preBreak, string, repeats, interval, stopPattern, trigger, autoArm, rearm },
        bs)

/-- The value read, where it takes the whole of the bytes. -/
def whole {α : Type} : Option (α × List Byte) → Option α
  | some (x, []) => some x
  | _ => none

/-- The number that the whole of the bytes spells, where there are k of them. -/
def wholeNat (k : Nat) (bs : List Byte) : Option Nat :=
  if bs.length = k then some (natOf bs) else none

/-! ### Requests -/

/-- The parameters of an ATTACH (R67). -/
structure AttachRequest where
  port     : Nat
  role     : Nat
  preempt  : Nat
  wait     : Nat
  start    : Nat
  position : Pos
  credit   : Nat
  gather   : Nat
  deriving DecidableEq, Repr

/-- The operation of a MANAGE frame (R177), with its operand. -/
inductive Manage where
  | stationWrite (w : StationWrite)
  | stationRead (entry : Nat)
  | patternWrite (w : PatternWrite)
  | patternRead (entry : Nat)
  | comparatorWrite (w : ComparatorWrite)
  | comparatorRead (entry : Nat)
  | keyinWrite (w : KeyinWrite)
  | keyinRead (entry : Nat)
  | profileWriteActive (port : Nat) (r : RawProfile)
  | profileWriteStaged (port : Nat) (r : Option RawProfile)
  /-- A PROFILE_WRITE that names neither the active nor the staged profile. -/
  | profileWriteOther
  | portStatus (port : Nat)
  | allocate (blocks : List Nat)
  | allocationRead
  | counterReset (port counter : Nat)
  | portRestart (port : Nat)
  | stationAddressWrite (m : Mac)
  | frameTypeWrite (n : Nat)
  | noticeDestinationWrite (m : Mac)
  | noticeMaskWrite (w : Word32)
  | holdoffWrite (n : Nat)
  | sessionIdleLimitWrite (n : Nat)
  | writerIdleLimitWrite (n : Nat)
  /-- A SETTING_WRITE that names no setting of R178. -/
  | settingWriteOther
  | settingsRead
  | noticeRead
  | save
  | warmRestart
  /-- An operation code that is not in the table of R177. -/
  | otherOperation
  deriving DecidableEq, Repr

/-- A request whose frame has the length its kind requires (R173). -/
inductive Request where
  | probe
  | openSession
  | closeSession
  | attach (r : AttachRequest)
  | detach
  | seek (kind : Nat) (position : Pos)
  | credit (position : Pos)
  | input (offset : Word32) (bytes : List Byte)
  | breakRequest
  | release (port : Nat)
  | pulse (port : Nat)
  | keyinStart (entry : Nat)
  | keyinStop (entry : Nat)
  | arm (entry : Nat)
  | rearm (pattern port : Nat)
  | manage (op : Byte) (m : Manage)
  deriving DecidableEq, Repr

def readAttach (bs : List Byte) : Option (AttachRequest × List Byte) := do
  let (port, bs) ← readNat 1 bs
  let (role, bs) ← readNat 1 bs
  let (preempt, bs) ← readNat 1 bs
  let (wait, bs) ← readNat 1 bs
  let (start, bs) ← readNat 1 bs
  let (position, bs) ← readNat 4 bs
  let (credit, bs) ← readNat 2 bs
  let (gather, bs) ← readNat 1 bs
  some ({ port, role, preempt, wait, start, position := BitVec.ofNat 32 position, credit, gather },
        bs)

/-- The operand of SETTING_WRITE: the setting's name, then its value (R178). A value after a name that
is none of R178's may have any length (DESIGN CHOICE, unsafe; assumption 37). -/
def parseSetting (bs : List Byte) : Option Manage := do
  let (name, value) ← readNat 1 bs
  match name with
  | 0 => (wholeNat 6 value).map fun n => .stationAddressWrite (BitVec.ofNat 48 n)
  | 1 => (wholeNat 2 value).map .frameTypeWrite
  | 2 => (wholeNat 6 value).map fun n => .noticeDestinationWrite (BitVec.ofNat 48 n)
  | 3 => (wholeNat 4 value).map fun n => .noticeMaskWrite (BitVec.ofNat 32 n)
  | 4 => (wholeNat 2 value).map .holdoffWrite
  | 5 => (wholeNat 2 value).map .sessionIdleLimitWrite
  | 6 => (wholeNat 2 value).map .writerIdleLimitWrite
  | _ => some .settingWriteOther

/-- The operand of PROFILE_WRITE: the port, which profile, and the profile (R182). What follows a name
that is neither profile's, or a flag above 1, may have any length (DESIGN CHOICE, unsafe;
assumption 37). -/
def parseProfileWrite (bs : List Byte) : Option Manage := do
  let (port, bs) ← readNat 1 bs
  let (which, bs) ← readNat 1 bs
  match which with
  | 0 => (whole (readProfile bs)).map (.profileWriteActive port)
  | 1 =>
    let (flag, bs) ← readNat 1 bs
    match flag with
    | 0 => if bs = [] then some (.profileWriteStaged port none) else none
    | 1 => (whole (readProfile bs)).map fun r => .profileWriteStaged port (some r)
    | _ => some .profileWriteOther
  | _ => some .profileWriteOther

/-- An operand of no bytes. -/
def noOperand (bs : List Byte) (m : Manage) : Option Manage := if bs = [] then some m else none

/-- The operand of a MANAGE operation, where its length agrees (R173, R177). The operand of an operation
outside R177 may have any length (DESIGN CHOICE, unsafe; assumption 37). -/
def parseManage (op : Byte) (bs : List Byte) : Option Manage :=
  match op.toNat with
  | 0x01 => (whole (readStation bs)).map .stationWrite
  | 0x02 => (wholeNat 1 bs).map .stationRead
  | 0x03 => (whole (readPattern bs)).map .patternWrite
  | 0x04 => (wholeNat 1 bs).map .patternRead
  | 0x05 => (whole (readComparator bs)).map .comparatorWrite
  | 0x06 => (wholeNat 1 bs).map .comparatorRead
  | 0x07 => (whole (readKeyin bs)).map .keyinWrite
  | 0x08 => (wholeNat 1 bs).map .keyinRead
  | 0x09 => parseProfileWrite bs
  | 0x0A => (wholeNat 1 bs).map .portStatus
  | 0x0B => if bs.length = 32 then some (.allocate (bs.map BitVec.toNat)) else none
  | 0x0C => noOperand bs .allocationRead
  | 0x0D => (whole (readPair bs)).map fun x => .counterReset x.kind x.arg
  | 0x0E => (wholeNat 1 bs).map .portRestart
  | 0x0F => parseSetting bs
  | 0x10 => noOperand bs .settingsRead
  | 0x11 => noOperand bs .noticeRead
  | 0x12 => noOperand bs .save
  | 0x13 => noOperand bs .warmRestart
  | _ => some .otherOperation

/-- A body of no bytes. -/
def noBody (bs : List Byte) (r : Request) : Option Request := if bs = [] then some r else none

/-- The request a body holds, where its length is what the kind requires (R173, step 4). -/
def parseRequest (kind : Byte) (bs : List Byte) : Option Request :=
  match kind.toNat with
  | 0x01 => noBody bs .probe
  | 0x02 => noBody bs .openSession
  | 0x03 => noBody bs .closeSession
  | 0x04 => (whole (readAttach bs)).map .attach
  | 0x05 => noBody bs .detach
  | 0x06 => (whole (do
      let (k, bs) ← readNat 1 bs
      let (p, bs) ← readNat 4 bs
      some ((k, p), bs))).map fun x => .seek x.1 (BitVec.ofNat 32 x.2)
  | 0x07 => (wholeNat 4 bs).map fun n => .credit (BitVec.ofNat 32 n)
  | 0x08 =>
    if 5 ≤ bs.length ∧ bs.length ≤ 4 + Config.dataBytes then
      some (.input (BitVec.ofNat 32 (natOf (bs.take 4))) (bs.drop 4))
    else none
  | 0x09 => noBody bs .breakRequest
  | 0x0A => (wholeNat 1 bs).map .release
  | 0x0B => (wholeNat 1 bs).map .pulse
  | 0x0C => (wholeNat 1 bs).map .keyinStart
  | 0x0D => (wholeNat 1 bs).map .keyinStop
  | 0x0E => (wholeNat 1 bs).map .arm
  | 0x0F => (whole (readPair bs)).map fun x => .rearm x.kind x.arg
  | 0x10 =>
    match bs with
    | [] => none
    | op :: bs => (parseManage op bs).map (.manage op)
  | _ => none

/-! ### Checks: enumerated fields -/

/-- A yes or no field. -/
def flag? : Nat → Option Bool
  | 0 => some false
  | 1 => some true
  | _ => none

def rateMode? : Nat → Option RateMode
  | 0 => some .fixed
  | 1 => some .auto
  | _ => none

def dataBits? : Nat → Option DataBits
  | 7 => some .seven
  | 8 => some .eight
  | _ => none

def parity? : Nat → Option Parity
  | 0 => some .none
  | 1 => some .even
  | 2 => some .odd
  | 3 => some .mark
  | 4 => some .space
  | _ => none

def stopBits? : Nat → Option StopBits
  | 1 => some .one
  | 2 => some .two
  | _ => none

def flow? : Nat → Option Flow
  | 0 => some .none
  | 1 => some .cts
  | _ => none

def auxA? : Nat → Option AuxA
  | 0 => some .none
  | 1 => some .resetLow
  | 2 => some .resetHigh
  | _ => none

def auxB? : Nat → Option AuxB
  | 0 => some .none
  | 1 => some .sense
  | 2 => some .cts
  | _ => none

def counter? : Nat → Option CounterId
  | 0 => some .rxb
  | 1 => some .txb
  | 2 => some .fer
  | 3 => some .per
  | 4 => some .brk
  | 5 => some .una
  | 6 => some .mat
  | 7 => some .deads
  | _ => none

def method? : Nat → Option Method
  | 0 => some .eq
  | 1 => some .ge
  | 2 => some .lt
  | _ => none

def rearm? : Nat → Option Rearm
  | 0 => some .every
  | 1 => some .once
  | _ => none

def rights? (n : Nat) : Option Rights :=
  if n < 8 then some ⟨n.testBit 0, n.testBit 1, n.testBit 2⟩ else none

/-- An action record (R119): KEYIN takes an entry number, every other kind the argument 0. -/
def action? (a : RawPair) : Option Action :=
  match a.kind with
  | 0 => if a.arg = 0 then some .none else none
  | 1 => if a.arg = 0 then some .hold else none
  | 2 => if a.arg = 0 then some .release else none
  | 3 => if a.arg = 0 then some .pulse else none
  | 4 => if a.arg = 0 then some .stage else none
  | 5 => (index? 16 a.arg).map .keyin
  | 6 => if a.arg = 0 then some .stopKeyin else none
  | _ => none

/-- A trigger record (R144). -/
def trigger? (a : RawPair) : Option Trigger :=
  match a.kind with
  | 0 => if a.arg = 0 then some .request else none
  | 1 => (index? 64 a.arg).map .patternMatch
  | 2 => (index? 16 a.arg).map .compare
  | 3 => if a.arg = 0 then some .pulseEnd else none
  | 4 => if a.arg = 0 then some .live else none
  | 5 => if a.arg = 0 then some .senseOn else none
  | 6 => (index? 16 a.arg).map .after
  | _ => none

/-- A start or a target: OLDEST 0, HEAD 1, a given position 2 (R182). A position sent with OLDEST or
HEAD is not looked at (DESIGN CHOICE, unsafe; assumption 36). -/
def target? (kind : Nat) (p : Pos) : Option Target :=
  match kind with
  | 0 => some .oldest
  | 1 => some .head
  | 2 => some (.position p)
  | _ => none

/-! ### Checks: table writes -/

/-- A legal rate (R2, R29). -/
def legalRate (r : Nat) : Bool := 300 ≤ r && r ≤ 1152000

/-- The rates and counts of the first part of R3. -/
def countsAllowed (r : RawProfile) : Bool :=
  legalRate r.fixedRate &&
  1 ≤ r.rateList.length && r.rateList.length ≤ 8 && r.rateList.all legalRate &&
  decide r.rateList.Nodup &&
  1 ≤ r.tolerance && r.tolerance ≤ 8 && 8 ≤ r.runsNeeded && r.runsNeeded ≤ 64 &&
  2 ≤ r.senseAgree && r.senseAgree ≤ 15

/-- Each timing field set to the nearer end of its range (R2, R3). -/
def clampProfile (r : RawProfile) : RawProfile :=
  { r with
    detectWindow := clampTo 1 255 r.detectWindow
    breakThreshold := clampTo 12 255 r.breakThreshold
    deadThreshold := clampTo 1 255 r.deadThreshold
    liveQual := clampTo 1 255 r.liveQual
    pulseDuration := clampTo 1 2550 r.pulseDuration
    sensePeriod := clampTo 1 255 r.sensePeriod
    txBreak := clampTo 1 255 r.txBreak }

/-- The profile whose enumerated fields the numbers code, where each does; no range is checked. -/
def decodeProfile (r : RawProfile) : Option Profile := do
  let enable ← flag? r.enable
  let rateMode ← rateMode? r.rateMode
  let redetect ← flag? r.redetect
  let dataBits ← dataBits? r.dataBits
  let parity ← parity? r.parity
  let stopBits ← stopBits? r.stopBits
  let flow ← flow? r.flow
  let auxA ← auxA? r.auxA
  let auxB ← auxB? r.auxB
  some {
    enable, rateMode, redetect, dataBits, parity, stopBits, flow, auxA, auxB
    fixedRate := r.fixedRate
    rateList := r.rateList
    tolerance := r.tolerance
    runsNeeded := r.runsNeeded
    detectWindow := r.detectWindow
    breakThreshold := r.breakThreshold
    deadThreshold := r.deadThreshold
    liveQual := r.liveQual
    pulseDuration := r.pulseDuration
    sensePeriod := r.sensePeriod
    senseAgree := r.senseAgree
    txBreak := r.txBreak }

/-- The combinations R3 forbids: CTS flow without the CTS function, and, in a write of the active
profile, enable yes on a port of 0 blocks. -/
def Profile.combinationAllowed (isActive : Bool) (alloc : Nat) (f : Profile) : Bool :=
  !(f.flow == .cts && f.auxB != .cts) && !(isActive && f.enable && alloc == 0)

/-- The check of R3: the profile with its timing fields clamped, and whether one was; or none where
the write is refused with RANGE. -/
def checkProfile (isActive : Bool) (alloc : Nat) (r : RawProfile) : Option (Profile × Bool) :=
  match decodeProfile (clampProfile r) with
  | none => none
  | some f =>
    if countsAllowed r && f.combinationAllowed isActive alloc then some (f, clampProfile r != r) else none

/-- OK, or CLAMPED where a field was clamped (R3, R175). -/
def clampResult (clamped : Bool) : Result := if clamped then .clamped else .ok

/-- The station address of a valid entry may be written: individual and not all zeros (R59, R178). -/
def individual (m : Mac) : Bool := !m.getLsbD 40 && m != 0

/-- Another valid entry holds the address (R59). -/
def State.addressTaken (s : State) (e : StationId) (m : Mac) : Bool :=
  allStations.any fun i => i != e && s.names i m

/-- The check of R59: the entry number and the entry, or none where it is refused with RANGE. -/
def checkStation (s : State) (w : StationWrite) : Option (StationId × Station) := do
  let e ← index? 16 w.entry
  let valid ← flag? w.valid
  let rights ← rights? w.rights
  if w.rank ≤ 7 && 1 ≤ w.limit && w.limit ≤ 8 &&
      !(valid && (!individual w.address || s.addressTaken e w.address)) then
    some (e, { valid, address := w.address, rank := w.rank, ports := w.ports, limit := w.limit,
               rights })
  else none

/-- The pattern of a write with valid yes (R107). A wildcard byte sent with flag 0 is not looked at
(DESIGN CHOICE, unsafe; assumption 36). -/
def pattern? (w : PatternWrite) : Option Pattern := do
  let wild ← flag? w.wildFlag
  let caseFold ← flag? w.caseFold
  let rearm ← rearm? w.rearm
  let markFlag ← flag? w.markFlag
  let action ← action? w.action
  if 1 ≤ w.bytes.length && w.bytes.length ≤ 24 then
    some { bytes := w.bytes, wildcard := if wild then some w.wild else none, caseFold,
           ports := w.ports, rearm, markFlag, action }
  else none

/-- The check of R107: the entry number, and the pattern or none for an invalid entry. -/
def checkPattern (w : PatternWrite) : Option (PatternId × Option Pattern) := do
  let i ← index? 64 w.entry
  let valid ← flag? w.valid
  if valid then
    let t ← pattern? w
    some (i, some t)
  else some (i, none)

/-- The check of R131. -/
def checkComparator (w : ComparatorWrite) : Option (ComparatorId × Comparator) := do
  let i ← index? 16 w.entry
  let enable ← flag? w.enable
  let port ← index? 32 w.port
  let counter ← counter? w.counter
  let method ← method? w.method
  let action ← action? w.action
  some (i, { enable, port, counter, method, value := w.value, action, last := false })

/-- A stop pattern: 0xFF is absent (R139, R182). -/
def stopPattern? (n : Nat) : Option (Option PatternId) :=
  if n = 0xFF then some none else (index? 64 n).map some

/-- The fields of a Key-in Table write that R139 checks with RANGE, and the clamped timing fields;
the state follows R140. -/
def keyinFields? (e : KeyinId) (w : KeyinWrite) : Option KeyinEntry := do
  let port ← index? 32 w.port
  let stop ← stopPattern? w.stopPattern
  let trigger ← trigger? w.trigger
  let autoArm ← flag? w.autoArm
  let rearm ← flag? w.rearm
  if w.string.length ≤ 48 && !(w.repeats == 0 && stop.isNone) && w.repeats ≤ 255 &&
      trigger != .after e && !(w.preBreak == 0 && w.string.isEmpty) then
    some { port, preBreak := clampTo 0 255 w.preBreak, string := w.string, repeats := w.repeats,
           interval := clampTo 1 255 w.interval, stopPattern := stop, trigger, autoArm, rearm,
           state := if autoArm then .armed else .idle, lastOutcome := none }
  else none

/-- A timing field of the write is clamped (R139). -/
def keyinClamped (w : KeyinWrite) : Bool :=
  255 < w.preBreak || w.interval == 0 || 255 < w.interval

/-- The vector is allowed by R42. -/
def State.vectorAllowed (s : State) (blocks : List Nat) : Bool :=
  blocks.length == 32 && blocks.all (· ≤ 64) && blocks.sum ≤ Config.storeBlocks &&
    allPorts.all fun p => (s.port p).state == .disabled || blocks.getD p.val 0 != 0

end Sys2Proof.Machine
end

