-- ==== Sys2Proof/Machine/Rate.lean ====
section
/-! DEFINITION. Line rate arithmetic and the rate detector (R28 to R39), and the bits of a character
on the line (R14, R18). -/

namespace Sys2Proof.Machine

/-! ### The sample divisor -/

/-- The divisor of a rate (R29): 18,432,000/r to the nearest integer, clamped to 16..65,535. -/
def divisorOf (r : Nat) : Nat :=
  clampTo 16 65535 ((Config.refClock + r) / (2 * r))

/-- The achieved rate of a divisor (R30). -/
def achievedRate (s : Nat) : Nat := Config.refClock / 2 / s

/-- The bit time of a divisor, in reference ticks (R28). -/
def bitTime (s : Nat) : Nat := 2 * s

/-- The break threshold of a port, in reference ticks (R31). -/
def Port.breakTicks (q : Port) : Nat := q.active.breakThreshold * bitTime q.divisor

/-- The dead threshold of a port, in reference ticks (R31). -/
def Port.deadTicks (q : Port) : Nat := q.active.deadThreshold * 100 * 36864

/-! ### Evaluation (R36, R37) -/

/-- The measure |M × r − 36,864,000| of R36. -/
def rateDistance (m r : Nat) : Nat :=
  (m * r - Config.refClock) + (Config.refClock - m * r)

/-- The rate is admissible for the minimum run (R36). -/
def admissible (tolerance m r : Nat) : Bool :=
  64 * rateDistance m r ≤ Config.refClock * tolerance

/-- Of two admissible rates, the one R37 chooses. -/
def betterRate (m : Nat) (best r : Nat) : Nat :=
  if rateDistance m r < rateDistance m best then r
  else if rateDistance m r = rateDistance m best ∧ best < r then r
  else best

/-- The rate R37 chooses from the list, where one is admissible. -/
def chooseRate (tolerance m : Nat) (rates : List Nat) : Option Nat :=
  match rates.filter (admissible tolerance m) with
  | [] => none
  | r :: rs => some (rs.foldl (betterRate m) r)

/-! ### Windows (R32, R34) -/

/-- Opening a window with a run of the given level in progress (R32). -/
def Detector.opened (windowUnits : Nat) (level : Bool) (d : Detector) : Detector :=
  { d with
    window := .discarding, count := 0, minRun := none, timer := some (windowUnits * 100), level := level }

/-- Opening a window again (R35, R38): the run in progress goes on. Between the two edges of a glitch its
level is not that of the line (R33; DEDUCED, unsafe; assumption 42). -/
def Detector.reopened (windowUnits : Nat) (d : Detector) : Detector := d.opened windowUnits d.level

/-- A closed window (R39). -/
def Detector.closed (d : Detector) : Detector :=
  { d with window := .closed, count := 0, minRun := none, timer := none }

/-- The edge is accepted as the boundary of a run (R33): it leaves the level of the run in progress, and
the new level holds for at least 32 reference ticks. An edge back to that level ends a glitch. R34
handles no run in CLOSED, and every run counted lasts at least 32 reference ticks. -/
def Detector.accepts (d : Detector) (edge : Nat) (mark : Bool) (held : Nat) : Bool :=
  d.level != mark && Config.glitchFloor ≤ held &&
  match d.window with
  | .closed => false
  | .discarding => true
  | .counting => d.runStart + Config.glitchFloor ≤ edge

/-- The run that an accepted edge completes counted or discarded (R34). -/
def Detector.edge (edge : Nat) (mark : Bool) (d : Detector) : Detector :=
  match d.window with
  | .closed => d
  | .discarding => { d with window := .counting, level := mark, runStart := edge }
  | .counting =>
    { d with
      level := mark
      runStart := edge
      count := d.count + 1
      minRun := match d.minRun with
        | none => some (edge - d.runStart)
        | some m => some (min m (edge - d.runStart)) }

/-! ### Characters on the line (R14, R18) -/

/-- The data bits of a byte that cross the line, least significant first. -/
def dataLevels (n : DataBits) (b : Byte) : List Bool :=
  match n with
  | .seven => (List.range 7).map b.getLsbD
  | .eight => (List.range 8).map b.getLsbD

/-- The parity bit over the data bits sent (true is mark), where there is one. -/
def parityLevel (p : Parity) (bits : List Bool) : Option Bool :=
  match p with
  | .none => none
  | .even => some (bits.foldl xor false)
  | .odd => some (!bits.foldl xor false)
  | .mark => some true
  | .space => some false

/-- The levels of a character on TXD, one bit time each (R18). -/
def characterLevels (f : Profile) (b : Byte) : List Bool :=
  let bits := dataLevels f.dataBits b
  [false] ++ bits ++ (parityLevel f.parity bits).toList ++
    (match f.stopBits with
     | .one => [true]
     | .two => [true, true])

/-- The byte stored for eight sampled data bits (R14): with 7 data bits the most significant place
holds a zero. -/
def receivedByte (n : DataBits) (data : Byte) : Byte :=
  match n with
  | .seven => data &&& 0x7F
  | .eight => data

/-- The sampled parity bit does not agree (R14). -/
def parityError (f : Profile) (data : Byte) (parityBit : Bool) : Bool :=
  match parityLevel f.parity (dataLevels f.dataBits data) with
  | none => false
  | some p => p != parityBit

end Sys2Proof.Machine
end

