-- ==== Sys2Proof/Machine/KeyinOps.lean ====
section
/-! DEFINITION. The transmitter's choice (R17 to R19) and the key-in unit (R142 to R157): triggers,
the start step, the end of an item, stops and the end procedure. -/

namespace Sys2Proof.Machine

/-! ### Entries -/

/-- An item a key-in entry offers the transmitter (R149). -/
inductive KeyinItem where
  | breakItem (ms : Nat)
  | byte (b : Byte)
  deriving DecidableEq, Repr

/-- The items of a cycle, in order (R149). -/
def KeyinEntry.items (w : KeyinEntry) : List KeyinItem :=
  (if w.preBreak = 0 then [] else [.breakItem (w.preBreak * 10)]) ++ w.string.map .byte

/-- The entry holds something to send (R138). -/
def KeyinEntry.hasContent (w : KeyinEntry) : Bool :=
  w.preBreak != 0 || !w.string.isEmpty

def KeyinEntry.run? (w : KeyinEntry) : Option Run :=
  match w.state with
  | .running r => some r
  | _ => none

def KeyinEntry.isRunning (w : KeyinEntry) : Bool := w.run?.isSome

def KeyinEntry.isPending (w : KeyinEntry) : Bool := w.state == .pending

/-- The entry is PENDING or RUNNING (R139, R143, R146). -/
def KeyinEntry.engaged (w : KeyinEntry) : Bool := w.isPending || w.isRunning

/-- The entry is IDLE or ARMED. -/
def KeyinEntry.atRest (w : KeyinEntry) : Bool := !w.engaged

def KeyinEntry.mapRun (f : Run → Run) (w : KeyinEntry) : KeyinEntry :=
  match w.state with
  | .running r => { w with state := .running (f r) }
  | _ => w

def allKeyins : List KeyinId := List.finRange 16

/-- The entry RUNNING on a port (R147). -/
def State.runningOn (s : State) (p : PortId) : Option KeyinId :=
  allKeyins.find? fun e => (s.keyin e).port == p && (s.keyin e).isRunning

/-- The lowest-numbered PENDING entry of a port (R147). -/
def State.pendingOn (s : State) (p : PortId) : Option KeyinId :=
  allKeyins.find? fun e => (s.keyin e).port == p && (s.keyin e).isPending

/-- The item a RUNNING entry has ready (R149): none in the interval wait, with an item in flight, or
with a stop outcome recorded. -/
def KeyinEntry.readyItem (w : KeyinEntry) : Option KeyinItem :=
  match w.run? with
  | none => none
  | some r =>
    if r.interval.isSome || r.inFlight || r.stop.isSome then none else w.items[r.place]?

/-! ### The transmitter's choice (R17) -/

/-- An item of a key-in entry on the line, with the active profile's framing (R149). -/
def keyinSignal (f : Profile) : KeyinItem → Signal
  | .breakItem ms => .breakSpace ms
  | .byte b => .character b (characterLevels f b)

/-- An item of the keystroke queue on the line (R18). -/
def queueSignal (f : Profile) : QueueItem → Signal
  | .breakToken => .breakSpace (f.txBreak * 10)
  | .byte b => .character b (characterLevels f b)

/-- Test 1 of R17 lets an item start: the port sends, and CTS does not hold it (R19). -/
def Port.maySend (q : Port) : Bool :=
  (q.state == .detecting || q.state == .live) && !(q.active.flow == .cts && q.auxBHigh)

/-- The item a RUNNING entry has ready is started, and its place moves on (R149). -/
def startKeyinItem (p : PortId) (e : KeyinId) (s : State) : State :=
  match (s.keyin e).readyItem with
  | none => s
  | some i =>
    (s.modKeyin e (·.mapRun fun r => { r with place := r.place + 1, inFlight := true })).modPort p
      fun q => { q with flight := some { signal := keyinSignal q.active i, fromKeyin := true } }

/-- Tests 3 and 4 of R17: the head item of the keystroke queue is removed and started. -/
def Port.startQueued (q : Port) : Port :=
  if q.hold then q
  else
    match q.queue with
    | [] => q
    | i :: rest =>
      { q with queue := rest, flight := some { signal := queueSignal q.active i, fromKeyin := false } }

/-- The transmitter of a port, where it is idle, chooses by the tests of R17. Every operation that may
let an idle transmitter start an item ends with this choice (DEDUCED, unsafe; assumption 10). -/
def txChoice (p : PortId) (s : State) : State :=
  if (s.port p).flight.isSome || !(s.port p).maySend then s
  else
    match s.runningOn p with
    | some e => startKeyinItem p e s
    | none => s.modPort p Port.startQueued

/-! ### Starting (R147, R148) -/

/-- The run state at the start of a run (R148). -/
def Run.initial (start : Pos) (repeats : Nat) : Run where
  start := start
  remaining := if repeats = 0 then none else some repeats
  cycle := 1
  place := 0
  inFlight := false
  stop := none
  interval := none
  byteSince := false

/-- Starting an entry (R148). -/
def startEntry (e : KeyinId) (s : State) : State :=
  let p := (s.keyin e).port
  let s := s.modKeyin e fun w =>
    { w with state := .running (.initial (s.port p).ring.head w.repeats) }
  txChoice p (writeMark p .keyinStart (BitVec.ofNat 16 e.val) s)

/-- The port is in SWITCHING, DETECTING or LIVE (R147). -/
def Port.mayStart (q : Port) : Bool :=
  q.state == .switching || q.state == .detecting || q.state == .live

/-- The start step of a port (R147). -/
def startStep (p : PortId) (s : State) : State :=
  if (s.runningOn p).isSome || !(s.port p).mayStart then s
  else
    match s.pendingOn p with
    | some e => startEntry e s
    | none => s

/-! ### Reports and triggers (R144, R145) -/

/-- An event reported to the key-in unit (R144). -/
inductive Report where
  | patternMatch (port : PortId) (pattern : PatternId)
  | compare (comparator : ComparatorId)
  | pulseEnd (port : PortId)
  | live (port : PortId)
  | senseOn (port : PortId)
  | after (entry : KeyinId)
  deriving DecidableEq, Repr

/-- The entry's trigger fits the report (R144). -/
def KeyinEntry.fits (w : KeyinEntry) : Report → Bool
  | .patternMatch p i => w.trigger == .patternMatch i && w.port == p
  | .compare n => w.trigger == .compare n
  | .pulseEnd p => w.trigger == .pulseEnd && w.port == p
  | .live p => w.trigger == .live && w.port == p
  | .senseOn p => w.trigger == .senseOn && w.port == p
  | .after e => w.trigger == .after e

/-- The report moves the entry to PENDING (R145): it fits, the entry is ARMED, it holds something to
send (R138), and its port is not in DISABLED. -/
def State.movedBy (s : State) (r : Report) (e : KeyinId) : Bool :=
  let w := s.keyin e
  w.fits r && w.state == .armed && w.hasContent && (s.port w.port).state != .disabled

/-- The entries a report moves, in ascending number. -/
def State.moved (s : State) (r : Report) : List KeyinId := allKeyins.filter (s.movedBy r)

/-- The entry becomes PENDING (R145, R146). -/
def makePending (e : KeyinId) (s : State) : State :=
  s.modKeyin e fun w => { w with state := .pending }

/-- A report that reaches the key-in unit (R145): every entry it moves becomes PENDING first; then
the start step is made for each port that gained one, except the port whose step is held back. -/
def report (heldBack : Option PortId) (r : Report) (s : State) : State :=
  let es := s.moved r
  let gained := allPorts.filter fun p =>
    es.any (fun e => (s.keyin e).port == p) && heldBack != some p
  forEach gained startStep (forEach es makePending s)

/-- The KEYIN action (R146): as KEYIN_START, without right or reply. -/
def keyinAction (e : KeyinId) (s : State) : State :=
  let w := s.keyin e
  if w.atRest && w.hasContent && (s.port w.port).state != .disabled then
    startStep w.port (makePending e s)
  else s

/-! ### Ends (R150 to R157) -/

/-- The outcome codes of R182. -/
def Outcome.code : Outcome → Nat
  | .completed => 1
  | .exhausted => 2
  | .stoppedByMatch => 3
  | .stoppedByAction => 4
  | .stoppedByRequest => 5
  | .abortedDead => 6
  | .abortedRestart => 7

/-- The cause an end raises (R157). -/
def Outcome.cause : Outcome → Cause
  | .completed | .stoppedByMatch | .stoppedByAction | .stoppedByRequest => .keyinDone
  | .exhausted | .abortedDead | .abortedRestart => .keyinFailed

/-- The argument of KEYIN_END, KEYIN_DONE and KEYIN_FAILED (R182). -/
def endArgument (e : KeyinId) (o : Outcome) : Word16 :=
  BitVec.ofNat 16 (e.val * 256 + o.code)

/-- ARMED or IDLE by the rearm flag (R157). -/
def KeyinEntry.rearmed (w : KeyinEntry) : KeyinEntry :=
  { w with state := if w.rearm then .armed else .idle }

/-- Steps 1 to 3 of the end procedure (R157). -/
def endRecord (e : KeyinId) (o : Outcome) (s : State) : State :=
  let p := (s.keyin e).port
  (raise o.cause (some p) (endArgument e o) (writeMark p .keyinEnd (endArgument e o) s)).modKeyin e
    fun w => { w with lastOutcome := some o, state := .idle }

/-- Steps 1 to 5 of the end procedure (R157), the start step of the entry's own port held back. -/
def endHeld (e : KeyinId) (o : Outcome) (s : State) : State :=
  (report (some (s.keyin e).port) (.after e) (endRecord e o s)).modKeyin e (·.rearmed)

/-- The end procedure (R157). -/
def endEntry (e : KeyinId) (o : Outcome) (s : State) : State :=
  let p := (s.keyin e).port
  let s' := endHeld e o s
  if (s.keyin e).isRunning then txChoice p (startStep p s') else s'

/-- A stop of a RUNNING entry (R152 to R154): at once, or recorded for the end of the item in flight;
a recorded outcome stays. -/
def stopEntry (e : KeyinId) (o : Outcome) (s : State) : State :=
  match (s.keyin e).run? with
  | none => s
  | some r =>
    if r.stop.isSome then s
    else if r.inFlight then s.modKeyin e (·.mapRun fun r => { r with stop := some o })
    else endEntry e o s

/-- The entries PENDING or RUNNING on a port, in ascending number (R156). -/
def State.engagedOn (s : State) (p : PortId) : List KeyinId :=
  allKeyins.filter fun e => (s.keyin e).port == p && (s.keyin e).engaged

/-- The abort of R156: every entry of the set ends, the start steps of the port held back. -/
def abortAll (p : PortId) (s : State) : State :=
  forEach (s.engagedOn p) (fun e => endHeld e .abortedRestart) s

/-- The outcome of a run whose repeats have run out (R150). -/
def KeyinEntry.naturalOutcome (w : KeyinEntry) : Outcome :=
  if w.stopPattern.isSome then .exhausted else .completed

/-- The end of a cycle (R150), where no stop outcome is recorded. -/
def cycleEnd (e : KeyinId) (s : State) : State :=
  match (s.keyin e).run? with
  | none => s
  | some r =>
    let left := r.remaining.map (· - 1)
    let s := s.modKeyin e (·.mapRun fun r => { r with remaining := left })
    if left = some 0 then endEntry e (s.keyin e).naturalOutcome s
    else s.modKeyin e fun w => w.mapRun fun r => { r with interval := some (w.interval * 10) }

/-- The end of the item in flight, for the entry RUNNING on the port whose item it is (R150, R152). -/
def itemEnd (p : PortId) (s : State) : State :=
  match s.runningOn p with
  | none => s
  | some e =>
    match (s.keyin e).run? with
    | none => s
    | some r =>
      if r.inFlight then
        let s := s.modKeyin e (·.mapRun fun r => { r with inFlight := false })
        match r.stop with
        | some o => endEntry e o s
        | none => if (s.keyin e).items.length ≤ r.place then cycleEnd e s else s
      else s

end Sys2Proof.Machine
end

