-- ==== Sys2Proof/Machine/LineOps.lean ====
section
/-! DEFINITION. What the line engine does to a port: pulses (R22, R23), the sense qualifier (R24),
profile switches (R7, R8), disabling (R9), applying an active profile (R4), the STAGE action (R5) and
PORT_RESTART (R26). -/

namespace Sys2Proof.Machine

/-- The entry's window on the port emptied, where it has one (R113). -/
def PatternEntry.clearWindow (p : PortId) (e : PatternEntry) : PatternEntry :=
  { e with windows := e.windows.set p (e.windows[p].map fun _ => []) }

/-- The match windows of a port emptied, for every pattern (R113). -/
def clearWindows (p : PortId) (s : State) : State :=
  { s with patterns := tabMap (·.clearWindow p) s.patterns }

/-! ### The reset pulse (R22, R23) -/

/-- Why a pulse is not taken (R22). -/
def Port.pulseRefusal (q : Port) : Option Result :=
  if q.state = .disabled then some .portDisabled
  else if q.active.auxA = .none then some .range
  else if q.pulse.isSome then some .pulseActive
  else none

/-- A pulse that is taken (R22). -/
def startPulse (p : PortId) (s : State) : State :=
  let d := (s.port p).active.pulseDuration
  writeMark p .pulseStart (BitVec.ofNat 16 d)
    (s.modPort p fun q => { q with pulse := some (d * 10) })

/-- A pulse in progress is cut (R23): no PULSE_DONE and no report. -/
def cutPulse (p : PortId) (s : State) : State :=
  if (s.port p).pulse.isSome then
    writeMark p .pulseEnd 1 (s.modPort p fun q => { q with pulse := none })
  else s

/-- The level driven on AUX-A, true at high, and `none` where the pin is not driven (R6, R22). -/
def Port.auxALevel (q : Port) : Option Bool :=
  match q.active.auxA with
  | .none => none
  | .resetLow => some q.pulse.isNone
  | .resetHigh => some q.pulse.isSome

/-! ### The sense qualifier (R24) -/

/-- The qualifier restarted: inactive, the first sample one period later. -/
def Port.restartSense (q : Port) : Port :=
  { q with sense := { active := false, count := 0, timer := some q.active.sensePeriod } }

/-- The qualifier stopped. -/
def Port.stopSense (q : Port) : Port :=
  { q with sense := { active := false, count := 0, timer := none } }

/-- Step 5 of R7, for a switch from the function `old`, which enables the port or not. -/
def Port.switchSense (old : AuxB) (enabling : Bool) (q : Port) : Port :=
  if q.active.auxB = .sense then
    if enabling || old != .sense then q.restartSense else q
  else if old = .sense then q.stopSense
  else q

/-! ### Profile switches (R7, R8) -/

/-- Reception, space-run timing and detection abandoned (R7, R9). -/
def Port.abandonLine (q : Port) : Port :=
  { q with detector := q.detector.closed, breakSeen := false, qualTimer := none }

/-- Steps 1 to 6 of R7. `old` is the active profile before the switch; the new one is in place. -/
def enterSwitching (p : PortId) (old : Profile) (arg : Word16) (s : State) : State :=
  let enabling := (s.port p).state == .disabled
  let s := s.modPort p fun q => { q.abandonLine with state := .switching, rateFound := false }
  let s := clearWindows p s
  let s := if (s.port p).active.auxA = old.auxA then s else cutPulse p s
  let s := s.modPort p (·.switchSense old.auxB enabling)
  writeMark p .switch arg s

/-- A port enters LIVE with its divisor set (R8, R10): the RATE_SET mark and cause, the report of the
port entering LIVE, and the transmitter's choice. -/
def enterLiveWith (p : PortId) (divisor : Nat) (s : State) : State :=
  let arg := BitVec.ofNat 16 divisor
  let s := s.modPort p fun q =>
    { q with state := .live, divisor := divisor, breakSeen := false }
  let s := raise .rateSet (some p) arg (writeMark p .rateSet arg s)
  txChoice p (report none (.live p) s)

/-- A port enters DETECTING and its detector opens a window; the present level of RXD is taken as that of
the run in progress (R8, R13, R32). -/
def Port.enterDetecting (q : Port) : Port :=
  { q with
    state := .detecting
    breakSeen := false
    qualTimer := none
    detector := q.detector.closed.opened q.active.detectWindow q.rxMark }

/-- The end of SWITCHING (R8). -/
def endSwitching (p : PortId) (s : State) : State :=
  match (s.port p).active.rateMode with
  | .auto => txChoice p (s.modPort p Port.enterDetecting)
  | .fixed => enterLiveWith p (divisorOf (s.port p).active.fixedRate) s

/-- SWITCHING ends at once where the transmitter is idle (R8); with an item in flight it ends by a
SWITCHING_END command (DEDUCED, safe; assumption 11). -/
def settleSwitching (p : PortId) (s : State) : State :=
  if (s.port p).state = .switching ∧ (s.port p).flight = none then endSwitching p s else s

/-- A profile switch (R7): SWITCHING is entered; a port that leaves DEAD by it makes its start step
(R147); and SWITCHING ends at once where it can (R8). That order of the start step is the model's
(DESIGN CHOICE, unsafe; assumption 13). -/
def profileSwitch (p : PortId) (old : Profile) (arg : Word16) (s : State) : State :=
  let wasDead := (s.port p).state == .dead
  let s := enterSwitching p old arg s
  settleSwitching p (if wasDead then startStep p s else s)

/-! ### Disabling (R9) -/

/-- Steps 1 to 3 of R9. -/
def Port.shutDown (q : Port) : Port :=
  { q.abandonLine with state := .disabled, flight := none, queue := [] }

/-- Disabling a port (R9); the new profile is in place. -/
def disablePort (p : PortId) (arg : Word16) (s : State) : State :=
  let s := s.modPort p Port.shutDown
  let s := cutPulse p (clearWindows p s)
  let s := s.modPort p Port.stopSense
  abortAll p (writeMark p .switch arg s)

/-! ### Applying an active profile (R4, R5) -/

def Port.setActive (f : Profile) (q : Port) : Port := { q with active := f }

/-- The outcomes of R4 for a profile that passed R3; `arg` is 0 for a MANAGE write, 1 for STAGE.
Rate lists are compared as lists (DEDUCED, unsafe; assumption 20). -/
def applyActive (p : PortId) (f : Profile) (arg : Word16) (s : State) : State :=
  let old := (s.port p).active
  if f = old then s
  else
    let s' := s.modPort p (·.setActive f)
    if f.enable then profileSwitch p old arg s'
    else if (s.port p).state = .disabled then s'
    else disablePort p arg s'

/-- The STAGE action (R5). -/
def stageAction (p : PortId) (s : State) : State :=
  match (s.port p).staged with
  | none => s
  | some f =>
    if f.enable && (s.port p).alloc == 0 then s
    else applyActive p f 1 (s.modPort p fun q => { q with staged := none })

/-! ### PORT_RESTART (R26) -/

/-- PORT_RESTART of one port (R26, R156). -/
def restartPort (p : PortId) (s : State) : State :=
  let disabled := (s.port p).state == .disabled
  let s := s.modPort p fun q => { q with queue := [], hold := false }
  if disabled then clearWindows p s
  else
    let s := clearWindows p (abortAll p (cutPulse p s))
    let s := enterSwitching p (s.port p).active 2 s
    settleSwitching p (startStep p s)

end Sys2Proof.Machine
end

