-- ==== Sys2Proof/Machine/Watch.lean ====
section
/-! DEFINITION. The shared actions (R119 to R121), the counter bank and the comparators (R124 to
R135), and the watch unit's matching (R110 to R118). -/

namespace Sys2Proof.Machine

/-! ### Actions (R120, R121) -/

/-- HOLD. -/
def holdAction (p : PortId) (s : State) : State :=
  s.modPort p fun q => { q with hold := true }

/-- RELEASE, by action or by request (R21, R103): the transmitter makes its choice again. -/
def releaseHold (p : PortId) (s : State) : State :=
  txChoice p (s.modPort p fun q => { q with hold := false })

/-- PULSE by action: ignored where R22 would refuse it. -/
def pulseAction (p : PortId) (s : State) : State :=
  match (s.port p).pulseRefusal with
  | some _ => s
  | none => startPulse p s

/-- STOP_KEYIN (R153). -/
def stopKeyinAction (p : PortId) (s : State) : State :=
  match s.runningOn p with
  | some e => stopEntry e .stoppedByAction s
  | none => s

/-- An action performed with the acting port (R120, R121). -/
def performAction (a : Action) (p : PortId) (s : State) : State :=
  match a with
  | .none => s
  | .hold => holdAction p s
  | .release => releaseHold p s
  | .pulse => pulseAction p s
  | .stage => stageAction p s
  | .keyin e => keyinAction e s
  | .stopKeyin => stopKeyinAction p s

/-! ### Counter events (R124, R125) -/

/-- The counter events of R125. -/
inductive CounterEvent where
  | byteStored | byteSent | framingError | parityError | breakRecorded | deadEntered | patternMatch
  | reset (c : CounterId)
  deriving DecidableEq, Repr

/-- The counters an event acts on (R125). -/
def CounterEvent.counters : CounterEvent → List CounterId
  | .byteStored => [.rxb, .una]
  | .byteSent => [.txb, .una]
  | .framingError => [.fer]
  | .parityError => [.per]
  | .breakRecorded => [.brk]
  | .deadEntered => [.deads]
  | .patternMatch => [.mat]
  | .reset c => [c]

def Counters.get (k : Counters) : CounterId → Word32
  | .rxb => k.rxb
  | .txb => k.txb
  | .fer => k.fer
  | .per => k.per
  | .brk => k.brk
  | .una => k.una
  | .mat => k.mat
  | .deads => k.deads

def Counters.put (k : Counters) (c : CounterId) (w : Word32) : Counters :=
  match c with
  | .rxb => { k with rxb := w }
  | .txb => { k with txb := w }
  | .fer => { k with fer := w }
  | .per => { k with per := w }
  | .brk => { k with brk := w }
  | .una => { k with una := w }
  | .mat => { k with mat := w }
  | .deads => { k with deads := w }

def Counters.inc (k : Counters) (c : CounterId) : Counters := k.put c (satInc (k.get c))

/-- The counters after an event (R125, R126). -/
def Counters.act (k : Counters) : CounterEvent → Counters
  | .byteStored => (k.inc .rxb).put .una 0
  | .byteSent => (k.inc .txb).inc .una
  | .framingError => k.inc .fer
  | .parityError => k.inc .per
  | .breakRecorded => k.inc .brk
  | .deadEntered => k.inc .deads
  | .patternMatch => k.inc .mat
  | .reset c => k.put c 0

/-! ### Comparators (R130 to R135) -/

/-- The test of an entry (R130). -/
def Method.test (m : Method) (counter value : Word32) : Bool :=
  match m with
  | .eq => counter == value
  | .ge => value.ule counter
  | .lt => counter.ult value

/-- The condition of an entry against the present counters (R130). -/
def State.condition (s : State) (c : Comparator) : Bool :=
  c.method.test ((s.port c.port).counters.get c.counter) c.value

def allComparators : List ComparatorId := List.finRange 16

/-- The evaluation of an entry (R133): its last condition becomes the condition just computed. -/
def State.evaluated (s : State) (c : Comparator) : Comparator :=
  { c with last := s.condition c }

/-- The evaluation of an entry fires it (R133). -/
def State.firesNow (s : State) (c : Comparator) : Bool := !c.last && s.condition c

/-- An enabled entry on a counter the event acts on (R133, R135). -/
def Comparator.watches (c : Comparator) (p : PortId) (ev : CounterEvent) : Bool :=
  c.enable && c.port == p && ev.counters.contains c.counter

/-- An entry fires (R134). -/
def fireComparator (i : ComparatorId) (s : State) : State :=
  let c := s.comparator i
  let s := raise .compare (some c.port) (BitVec.ofNat 16 i.val) s
  report none (.compare i) (performAction c.action c.port s)

/-- The entries that fire at an event, in ascending number (R135). -/
def State.firingSet (s : State) (p : PortId) (ev : CounterEvent) : List ComparatorId :=
  allComparators.filter fun i => (s.comparator i).watches p ev && s.firesNow (s.comparator i)

/-- Every watching entry evaluated (R135). -/
def State.evaluateAll (s : State) (p : PortId) (ev : CounterEvent) : State :=
  { s with comparators := tabMap (fun c => if c.watches p ev then s.evaluated c else c) s.comparators }

/-- A counter event of a port, with its evaluations and firings (R125, R133 to R135). -/
def counterEvent (p : PortId) (ev : CounterEvent) (s : State) : State :=
  let s := s.modPort p fun q => { q with counters := q.counters.act ev }
  forEach (s.firingSet p ev) fireComparator (s.evaluateAll p ev)

/-! ### Matching (R110 to R112) -/

/-- The bytes are a letter in upper case and the same letter in lower case. -/
def foldsTo (upper lower : Byte) : Bool :=
  0x41 ≤ upper.toNat && upper.toNat ≤ 0x5A && lower == upper + 0x20

/-- A byte of the string agrees with a stored byte (R110). -/
def Pattern.agrees (t : Pattern) (b stored : Byte) : Bool :=
  t.wildcard == some b || b == stored || (t.caseFold && (foldsTo b stored || foldsTo stored b))

/-- A window after a stored byte (R111): the last n bytes. -/
def pushWindow (n : Nat) (window : List Byte) (b : Byte) : List Byte :=
  let w := window ++ [b]
  w.drop (w.length - n)

/-- The window holds a match of the pattern (R112). -/
def Pattern.matchesWindow (t : Pattern) (window : List Byte) : Bool :=
  window.length == t.bytes.length && (t.bytes.zip window).all fun x => t.agrees x.1 x.2

/-- The entry's window on the port, and its pattern, where it is armed there. -/
def PatternEntry.windowOn (e : PatternEntry) (p : PortId) : Option (Pattern × List Byte) :=
  match e.pattern, e.windows[p] with
  | some t, some w => some (t, w)
  | _, _ => none

/-- The stored byte appended to the entry's window on the port (R111). -/
def PatternEntry.push (p : PortId) (b : Byte) (e : PatternEntry) : PatternEntry :=
  match e.windowOn p with
  | some (t, w) => { e with windows := e.windows.set p (some (pushWindow t.bytes.length w b)) }
  | none => e

/-- The entry's window on the port holds a match. -/
def PatternEntry.matchesOn (e : PatternEntry) (p : PortId) : Bool :=
  match e.windowOn p with
  | some (t, w) => t.matchesWindow w
  | none => false

def allPatterns : List PatternId := List.finRange 64

/-- Every window of the port takes the stored byte (R117). -/
def State.pushByte (s : State) (p : PortId) (b : Byte) : State :=
  { s with patterns := tabMap (·.push p b) s.patterns }

/-- The patterns whose windows hold a match, in ascending number (R117). -/
def State.matchSet (s : State) (p : PortId) : List PatternId :=
  allPatterns.filter fun i => (s.patternEntry i).matchesOn p

/-! ### What a match does (R116, R118, R152) -/

/-- The pattern is the stop pattern of the entry RUNNING on the port, and the match was completed by
a byte stored after that run started (R152). -/
def State.stopMatchOf (s : State) (p : PortId) (i : PatternId) : Option KeyinId :=
  match s.runningOn p with
  | none => none
  | some e =>
    match (s.keyin e).run? with
    | none => none
    | some r => if (s.keyin e).stopPattern = some i ∧ r.byteSince then some e else none

/-- The match used as the stop match of the entry RUNNING on the port (R152). -/
def stopByMatch (p : PortId) (i : PatternId) (s : State) : State :=
  match s.stopMatchOf p i with
  | some e => stopEntry e .stoppedByMatch s
  | none => s

/-- Step 6 of R116: the report is used as a trigger and as a stop match, in either order (R145). -/
def reportMatch (stopFirst : Bool) (p : PortId) (i : PatternId) (s : State) : State :=
  if stopFirst then report none (.patternMatch p i) (stopByMatch p i s)
  else stopByMatch p i (report none (.patternMatch p i) s)

/-- Steps 1 and 2 of R116: the match is counted, and a ONCE pattern is disarmed on the port. -/
def PatternEntry.matched (p : PortId) (t : Pattern) (e : PatternEntry) : PatternEntry :=
  { e with
    matchCount := satInc e.matchCount
    windows := if t.rearm = .once then e.windows.set p none else e.windows }

/-- The seven steps of R116. -/
def handleMatch (stopFirst : Bool) (p : PortId) (i : PatternId) (s : State) : State :=
  match (s.patternEntry i).pattern with
  | none => s
  | some t =>
    let arg := BitVec.ofNat 16 i.val
    let s := s.modPattern i (·.matched p t)
    let s := if t.markFlag then writeMark p .patternMatch arg s else s
    let s := performAction t.action p (raise .patternMatch (some p) arg s)
    counterEvent p .patternMatch (reportMatch stopFirst p i s)

/-- What follows the storing of a byte: the watch unit's finding of the matches it completes, the
handling of each, and its counter events. -/
inductive ByteJob where
  | watch
  | handle (i : PatternId)
  | count (ev : CounterEvent)
  deriving DecidableEq, Repr

/-- The list with x at place n, or at its end. -/
def insertAt {α : Type} (n : Nat) (x : α) (xs : List α) : List α :=
  xs.take n ++ x :: xs.drop n

/-- The jobs of one stored byte in the order the part takes them (R117, R125, R136), where the byte
completes the matches ms. The handling of one match is one job: no counter event of the byte falls
inside its seven steps (DESIGN CHOICE, unsafe; assumption 40). -/
def byteJobs (order : StoreOrder) (parity : Bool) (ms : List PatternId) : List ByteJob :=
  let jobs := insertAt order.storedAt (.count .byteStored) (.watch :: ms.map .handle)
  if parity then insertAt order.parityAt (.count .parityError) jobs else jobs

/-- The jobs taken before the watch unit appends the byte and finds the matches (R136). Which these are
does not rest on the matches. -/
def earlyJobs (order : StoreOrder) (parity : Bool) : List ByteJob :=
  (byteJobs order parity []).takeWhile (· != .watch)

/-- The jobs taken after the watch unit has found the matches ms. -/
def lateJobs (order : StoreOrder) (parity : Bool) (ms : List PatternId) : List ByteJob :=
  ((byteJobs order parity ms).dropWhile (· != .watch)).drop 1

/-- A job carried out. The finding itself stands between the early and the late jobs, and is none of
them. -/
def runJob (stopFirst : Bool) (p : PortId) (j : ByteJob) (s : State) : State :=
  match j with
  | .watch => s
  | .handle i => handleMatch stopFirst p i s
  | .count ev => counterEvent p ev s

/-- The entry RUNNING on the port has now seen a stored byte (R152; DEDUCED, unsafe; assumption 17). -/
def noteByte (p : PortId) (s : State) : State :=
  match s.runningOn p with
  | some e => s.modKeyin e (·.mapRun fun r => { r with byteSince := true })
  | none => s

end Sys2Proof.Machine
end

