-- ==== Sys2Proof/Machine/Tables.lean ====
section
/-! DEFINITION. What an accepted write of a table or of a setting does (R43, R59, R82, R108, R115,
R132, R140, R161, R165, R166, R178), shared by the MANAGE requests and by start-up (R183). -/

namespace Sys2Proof.Machine

/-- The sessions of a station entry, in ascending slot order (R59). -/
def State.slotsOf (s : State) (e : StationId) : List SlotId :=
  allSlots.filter fun k => (s.session k).ofStation e

/-- The three steps of an accepted Station Table write (R59, R61). -/
def applyStation (e : StationId) (w : Station) (s : State) : State :=
  let s := forEach (s.slotsOf e) closeSession s
  { s with
    stations := s.stations.set e w
    commissioning := s.commissioning && e != 0 }

/-- The windows of a pattern armed on every port of its set (R108, R114). -/
def armedWindows : Option Pattern → Vector (Option (List Byte)) 32
  | none => Vector.replicate 32 none
  | some t => ⟨⟨allPorts.map fun p => if inSet t.ports p then some [] else none⟩, by simp [allPorts]⟩

/-- An accepted Pattern Table write (R108). -/
def applyPattern (i : PatternId) (t : Option Pattern) (s : State) : State :=
  s.modPattern i fun _ => { pattern := t, matchCount := 0, windows := armedWindows t }

/-- An accepted Comparator Table write (R132): the new entry, whose last condition is false, is
evaluated at once where it is enabled. -/
def applyComparator (i : ComparatorId) (c : Comparator) (s : State) : State :=
  if c.enable then
    let s' := s.modComparator i fun _ => s.evaluated c
    if s.firesNow c then fireComparator i s' else s'
  else s.modComparator i fun _ => c

/-- An accepted Key-in Table write (R140). -/
def applyKeyin (e : KeyinId) (w : KeyinEntry) (s : State) : State :=
  s.modKeyin e fun _ => w

/-- An accepted ALLOCATE (R43): every ring whose allocation changes is emptied. -/
def applyVector (blocks : List Nat) (s : State) : State :=
  forEach allPorts
    (fun p s => if blocks.getD p.val 0 = (s.port p).alloc then s else emptyRing p (blocks.getD p.val 0) s) s

/-! ### Settings (R178): each answers a result, and changes nothing where it is refused -/

def setAddress (m : Mac) (s : State) : Result × State :=
  if individual m then (.ok, { s with uplink := { s.uplink with address := m } }) else (.range, s)

def setFrameType (n : Nat) (s : State) : Result × State :=
  if 0x0600 ≤ n ∧ n ≤ 0xFFFF then
    (.ok, { s with uplink := { s.uplink with frameType := BitVec.ofNat 16 n } })
  else (.range, s)

/-- R165: an address of all zeros is none. -/
def setDestination (m : Mac) (s : State) : Result × State :=
  (.ok, { s with notice := { s.notice with destination := if m = 0 then none else some m } })

/-- R161, R182: a mask names the eleven event causes alone. -/
def setMask (w : Word32) (s : State) : Result × State :=
  if w.toNat < 2 ^ 11 then (.ok, { s with notice := { s.notice with mask := w } }) else (.range, s)

/-- R166. -/
def setHoldoff (n : Nat) (s : State) : Result × State :=
  (clampResult (255 < n), { s with notice := { s.notice with holdoff := clampTo 0 255 n } })

/-- R82: a limit that changes restarts every session idle timer. -/
def setSessionLimit (n : Nat) (s : State) : Result × State :=
  let m := clampTo 10 3600 n
  (clampResult (m != n),
   if m = s.sessionLimit then s
   else
    { s with
      sessionLimit := m
      sessions := tabMap
        (fun x => { x with live := x.live.map fun l => { l with idle := m * 1000 } }) s.sessions })

/-- The writer idle timer of every writer started, restarted or stopped (R82). -/
def State.restartWriterIdle (s : State) : State :=
  forEach allSlots
    (fun k t =>
      if s.isWriter k then t.modAttachment k fun a => { a with writerIdle := s.freshWriterIdle }
      else t) s

/-- R82: a limit that changes restarts, stops or starts the writers' idle timers. -/
def setWriterLimit (n : Nat) (s : State) : Result × State :=
  let m := clampTo 0 3600 n
  (clampResult (m != n),
   if m = s.writerLimit then s else ({ s with writerLimit := m } : State).restartWriterIdle)

end Sys2Proof.Machine
end

