-- ==== Sys2Proof/Machine/Engine.lean ====
section
/-! DEFINITION. The frame engine (R172 to R177): taking the oldest received frame, checking its
header, body length and handle, counting it, the replies, and the checks common to MANAGE. -/

namespace Sys2Proof.Machine

/-! ### The header (R182) -/

def RxFrame.byteAt (f : RxFrame) (i : Nat) : Byte := f.data.getD i 0

def RxFrame.kind (f : RxFrame) : Byte := f.byteAt 1

def RxFrame.slot (f : RxFrame) : Byte := f.byteAt 2

def RxFrame.generation (f : RxFrame) : Byte := f.byteAt 3

def RxFrame.bodyLength (f : RxFrame) : Nat := natOf ((f.data.drop 4).take 2)

def RxFrame.tag (f : RxFrame) : Word16 := BitVec.ofNat 16 (natOf ((f.data.drop 6).take 2))

def RxFrame.body (f : RxFrame) : List Byte := (f.data.drop 8).take f.bodyLength

/-- The body length agrees with the data field (R173, step 1). -/
def RxFrame.lengthAgrees (f : RxFrame) : Bool :=
  8 + f.bodyLength == f.data.length || (f.data.length == 46 && 8 + f.bodyLength < 46)

/-- The kind is one of the sixteen kinds toward the part (R173, step 2). -/
def RxFrame.kindServed (f : RxFrame) : Bool := 1 ≤ f.kind.toNat && f.kind.toNat ≤ 0x10

/-- The kind is PROBE. -/
def RxFrame.isProbe (f : RxFrame) : Bool := f.kind == 0x01

/-- The kind is served without a handle (R63): PROBE or OPEN. -/
def RxFrame.needsNoHandle (f : RxFrame) : Bool := f.kind == 0x01 || f.kind == 0x02

/-- The session a handle's slot names. -/
def slotOf (b : Byte) : SlotId := Fin.ofNat 64 b.toNat

/-- The handle check of R63 passes. -/
def State.handleValid (s : State) (f : RxFrame) : Bool :=
  f.slot.toNat < 64 &&
  match (s.session (slotOf f.slot)).live with
  | none => false
  | some l =>
    (s.session (slotOf f.slot)).generation == f.generation && s.resolve f.source == some l.station

/-- What R173 makes of a taken frame. -/
inductive Taken where
  | malformed
  | unknownKind
  | notMine
  | stale
  | request (r : Request)
  deriving DecidableEq, Repr

/-- The five checks of R173, in order. -/
def State.classify (s : State) (f : RxFrame) : Taken :=
  if f.byteAt 0 ≠ 1 ∨ !f.lengthAgrees then .malformed
  else if !f.kindServed then .unknownKind
  else if f.broadcast && !f.isProbe then .notMine
  else
    match parseRequest f.kind f.body with
    | none => .malformed
    | some r => if f.needsNoHandle || s.handleValid f then .request r else .stale

/-! ### Taking a frame (R172) -/

/-- The frame the engine takes next: the oldest, where the reply queue has room. -/
def State.oldestFrame (s : State) : Option RxFrame :=
  if s.uplink.replies.length < Config.uplinkFrames then s.uplink.rxQueue.head? else none

/-- Taking a frame removes it from the receive queue. -/
def removeFrame (s : State) : State :=
  { s with uplink := { s.uplink with rxQueue := s.uplink.rxQueue.tail } }

/-- A valid frame of a session restarts its idle timer (R63, R80) and names its peer (R85). -/
def touchSession (k : SlotId) (source : Mac) (s : State) : State :=
  s.modSession k fun x =>
    { x with live := x.live.map fun l => { l with idle := s.sessionLimit * 1000, peer := source } }

/-- A frame that passes R173 is taken and counted in RX_OK; a frame with a handle is a valid frame of
its session. -/
def accept (f : RxFrame) (s : State) : State :=
  let s := (removeFrame s).countUplink (·.countOk)
  if f.needsNoHandle then s else touchSession (slotOf f.slot) f.source s

/-- What a request's service reads of its frame: source, header and the entry it resolves to. -/
structure Ctx where
  source     : Mac
  slot       : Byte
  generation : Byte
  tag        : Word16
  kind       : Byte
  op         : Option Byte
  station    : Option StationId
  deriving DecidableEq, Repr

/-- The MANAGE operation code a reply names (R177). -/
def Request.op : Request → Option Byte
  | .manage op _ => some op
  | _ => none

def State.ctx (s : State) (f : RxFrame) (op : Option Byte) : Ctx where
  source := f.source
  slot := f.slot
  generation := f.generation
  tag := f.tag
  kind := f.kind
  op := op
  station := s.resolve f.source

/-- The session of the frame's handle. -/
def Ctx.session (c : Ctx) : SlotId := slotOf c.slot

/-- The Station Table entry of the frame; an unresolved frame has no rights and no ports. -/
def State.stationOf (s : State) (c : Ctx) : Station :=
  match c.station with
  | some e => s.station e
  | none => .invalid

/-- A REPLY appended to the reply queue (R172, R174). -/
def reply (c : Ctx) (result : Result) (values : List Byte) (s : State) : State :=
  { s with uplink :=
      { s.uplink with replies := s.uplink.replies ++
          [{ dest := c.source, slot := c.slot, generation := c.generation, tag := c.tag,
             kind := c.kind, result := result, op := c.op, values := values }] } }

/-- The service of one row: where the oldest frame is a request of that row it is accepted and
served; otherwise the row's step does not take place (DESIGN CHOICE, safe; assumption 7). -/
def serve {α : Type} (pick : Request → Option α) (act : Ctx → α → State → State) (s : State) :
    Host.Outcome State Fault Refusal :=
  match s.oldestFrame with
  | none => .next s
  | some f =>
    match s.classify f with
    | .request r =>
      match pick r with
      | some a => .next (settle (act (s.ctx f r.op) a (accept f s)))
      | none => .next s
    | _ => .next s

/-! ### MANAGE (R177) -/

/-- The checks of R177 before the operation's own: the right, and SAVE_ACTIVE for a write. -/
def managed (isWrite : Bool) (c : Ctx) (act : State → State) (s : State) : State :=
  if !(s.stationOf c).rights.manage then reply c .refusedAccess [] s
  else if isWrite && s.saving.isSome then reply c .saveActive [] s
  else act s

/-- The service of one row of MANAGE. -/
def serveManage {α : Type} (isWrite : Bool) (pick : Manage → Option α)
    (act : Ctx → α → State → State) (s : State) : Host.Outcome State Fault Refusal :=
  serve
    (fun r => match r with
      | .manage _ m => pick m
      | _ => none)
    (fun c a => managed isWrite c (act c a)) s

end Sys2Proof.Machine
end

