-- ==== Sys2Proof/Machine/Console.lean ====
section
/-! DEFINITION. The events of a console line and of its pins: reception (R12 to R16, R45), detection
(R34 to R38), the transmitter (R8, R17 to R19), the pulse timer (R23) and the sense line (R24). An
event that cannot take place in the port's state changes nothing; an expiry is taken whenever its timer
runs (DESIGN CHOICE, safe; assumption 6). -/

namespace Sys2Proof.Machine

/-! ### Reception -/

/-- A good character, or one with a parity error, framed in LIVE (R14, R45, R117). The line was at mark
for its stop bit, so a later space is a new run (DEDUCED, unsafe; assumption 15). Windows that an early
job emptied take the byte all the same (DESIGN CHOICE, unsafe; assumption 39). The parity-error event
comes after the byte is in the ring (DESIGN CHOICE, unsafe; assumption 43). -/
def storeCharacter (p : PortId) (data : Byte) (parityBit : Bool) (order : StoreOrder) (s : State) :
    State :=
  let f := (s.port p).active
  let b := receivedByte f.dataBits data
  let s := s.modPort p fun q => { q with rxMark := true, breakSeen := false }
  let s := noteByte p (storeByte p b s)
  let parity := parityError f data parityBit
  let s := forEach (earlyJobs order parity) (runJob order.stopFirst p) s
  let s := s.pushByte p b
  forEach (lateJobs order parity (s.matchSet p)) (runJob order.stopFirst p) s

/-- BYTE_STORED (R45): a port stores bytes only in LIVE. -/
def execByteStored (p : PortId) (data : Byte) (parityBit : Bool) (order : StoreOrder) (s : State) :
    Host.Outcome State Fault Refusal :=
  if (s.port p).state = .live then .next (settle (storeCharacter p data parityBit order s))
  else .next s

/-- FRAMING_ERROR (R15): in LIVE, for a run that has recorded no BREAK; FER is counted. -/
def execFramingError (p : PortId) (s : State) : Host.Outcome State Fault Refusal :=
  if (s.port p).state = .live ∧ (s.port p).breakSeen = false then
    .next (settle (counterEvent p .framingError (s.modPort p fun q => { q with rxMark := true })))
  else .next s

/-- A BREAK recorded (R15): the mark, the count, the cause, and the windows emptied. -/
def recordBreak (p : PortId) (s : State) : State :=
  let s := s.modPort p fun q => { q with rxMark := false, breakSeen := true }
  let s := counterEvent p .breakRecorded (writeMark p .breakRx 0 s)
  clearWindows p (raise .breakRx (some p) 0 s)

/-- BREAK_RECORDED (R15, R16): at most one BREAK for one space run. -/
def execBreakRecorded (p : PortId) (s : State) : Host.Outcome State Fault Refusal :=
  if (s.port p).state = .live ∧ (s.port p).breakSeen = false then .next (settle (recordBreak p s))
  else .next s

/-- Step 7 of R12, R155: the entry that was RUNNING when DEAD was entered ends, if it still runs
(DEDUCED, unsafe; assumption 18). -/
def abortDead (p : PortId) (was : Option KeyinId) (s : State) : State :=
  match was with
  | some e => if s.runningOn p = some e then endEntry e .abortedDead s else s
  | none => s

/-- Entry into DEAD (R12, steps 2 to 7). -/
def enterDead (p : PortId) (s : State) : State :=
  let was := s.runningOn p
  let s := s.modPort p fun q =>
    { q with state := .dead, detector := q.detector.closed, rxMark := false, breakSeen := false,
             qualTimer := none }
  let s := counterEvent p .deadEntered (writeMark p .dead 0 (clearWindows p s))
  abortDead p was (raise .lineDead (some p) 0 s)

/-- The dead threshold reached in LIVE (R12, R16): a BREAK is recorded first where the run has none.
DEAD is then entered, unless what the BREAK set off has abandoned the run (DEDUCED, unsafe;
assumption 18). -/
def deadFromLive (p : PortId) (s : State) : State :=
  let s := if (s.port p).breakSeen then s else recordBreak p s
  if (s.port p).state = .live ∧ (s.port p).breakSeen then enterDead p s else s

/-- DEAD_THRESHOLD (R12), in DETECTING or LIVE. -/
def execDeadThreshold (p : PortId) (s : State) : Host.Outcome State Fault Refusal :=
  match (s.port p).state with
  | .live => .next (settle (deadFromLive p s))
  | .detecting => .next (settle (enterDead p s))
  | _ => .next s

/-- SPACE_RUN_END (R11, R13, R15): RXD is back at mark. In DEAD the live qualification time starts or
restarts; elsewhere the run is over and the receiver idle. -/
def execSpaceRunEnd (p : PortId) (s : State) : Host.Outcome State Fault Refusal :=
  .next (s.modPort p fun q =>
    { q with
      rxMark := true
      breakSeen := false
      qualTimer := if q.state = .dead then some q.active.liveQual else q.qualTimer })

/-- A port that leaves DEAD enters DETECTING (R13). -/
def Port.redetects (q : Port) : Bool :=
  q.active.rateMode == .auto && (q.active.redetect || !q.rateFound)

/-- Leaving DEAD after the live qualification (R13, R147). The mark and the cause come before the
report and the start step (DESIGN CHOICE, unsafe; assumption 13). -/
def leaveDead (p : PortId) (s : State) : State :=
  let redetects := (s.port p).redetects
  let s := s.modPort p fun q =>
    if q.redetects then q.enterDetecting
    else { q with state := .live, breakSeen := false, qualTimer := none }
  let s := raise .lineLive (some p) 0 (writeMark p .live 0 s)
  let s := if redetects then s else report none (.live p) s
  txChoice p (startStep p s)

/-- LIVE_QUALIFICATION (R13), where the live qualification time is running in DEAD. -/
def execLiveQualification (p : PortId) (s : State) : Host.Outcome State Fault Refusal :=
  if (s.port p).state = .dead ∧ (s.port p).qualTimer.isSome then .next (settle (leaveDead p s))
  else .next s

/-! ### Detection (R34 to R38) -/

/-- The argument of RATE_UNMATCHED (R38). -/
def unmatchedArgument (m : Nat) : Word16 := BitVec.ofNat 16 (min m 65535)

/-- The evaluation of a minimum run (R36): success (R10, R37) or failure (R38). -/
def evaluateRun (p : PortId) (m : Nat) (s : State) : State :=
  let f := (s.port p).active
  match chooseRate f.tolerance m f.rateList with
  | some r =>
    enterLiveWith p (divisorOf r)
      (s.modPort p fun q => { q with detector := q.detector.closed, rateFound := true })
  | none =>
    (raise .rateUnmatched (some p) (unmatchedArgument m) s).modPort p fun q =>
      { q with detector := q.detector.reopened q.active.detectWindow }

/-- An accepted edge (R34): the run it ends is discarded or counted, and the K-th count evaluates. -/
def acceptEdge (p : PortId) (edge : Nat) (mark : Bool) (s : State) : State :=
  let s := s.modPort p fun q => { q with rxMark := mark, detector := q.detector.edge edge mark }
  let q := s.port p
  match q.detector.minRun with
  | some m => if q.active.runsNeeded ≤ q.detector.count then evaluateRun p m s else s
  | none => s

/-- DETECTOR_RUN (R33, R34): in DETECTING an accepted edge completes a run. An edge of a glitch, and any
edge in another state, leaves RXD at its new level and does nothing else. -/
def execDetectorRun (p : PortId) (edge : Edge) (mark : Bool) (s : State) :
    Host.Outcome State Fault Refusal :=
  if (s.port p).state = .detecting ∧ (s.port p).detector.accepts edge.tick mark edge.held then
    .next (settle (acceptEdge p edge.tick mark s))
  else .next (s.modPort p fun q => { q with rxMark := mark })

/-- DETECTION_WINDOW_EXPIRY (R35): the window opens again. -/
def execDetectionWindowExpiry (p : PortId) (s : State) : Host.Outcome State Fault Refusal :=
  if (s.port p).state = .detecting ∧ (s.port p).detector.timer.isSome then
    .next (s.modPort p fun q => { q with detector := q.detector.reopened q.active.detectWindow })
  else .next s

/-! ### Transmission (R8, R17 to R19) -/

/-- SWITCHING_END (R8): no item is in flight any more. -/
def execSwitchingEnd (p : PortId) (s : State) : Host.Outcome State Fault Refusal :=
  .next (settle (settleSwitching p s))

/-- The AUX-B level seen, and the choice of R17 made with it (R19). A level is an operand of the
command that sees it (DESIGN CHOICE, safe; assumption 14). -/
def chooseWithLevel (p : PortId) (high : Bool) (s : State) : State :=
  txChoice p (s.modPort p fun q => { q with auxBHigh := high })

/-- TRANSMITTER_CHOICE (R17). -/
def execTransmitterChoice (p : PortId) (high : Bool) (s : State) :
    Host.Outcome State Fault Refusal :=
  .next (settle (chooseWithLevel p high s))

/-- CTS_ASSERT (R19): the AUX-B pin falls, and the choice is made again where its function is CTS. -/
def execCtsAssert (p : PortId) (s : State) : Host.Outcome State Fault Refusal :=
  if (s.port p).active.auxB = .cts then .next (settle (chooseWithLevel p false s))
  else .next (s.modPort p fun q => { q with auxBHigh := false })

/-- The transmitter is idle again, and chooses (R17). -/
def freeTransmitter (p : PortId) (s : State) : State :=
  txChoice p (s.modPort p fun q => { q with flight := none })

/-- The end of a byte (R18): its counter event and the end of the key-in item, in either order, both
before the next choice. What they set off finds the byte still in flight, so that a profile switch
begun here stays in SWITCHING (DESIGN CHOICE, unsafe; assumption 38). -/
def finishByte (p : PortId) (keyinFirst : Bool) (s : State) : State :=
  freeTransmitter p
    (if keyinFirst then counterEvent p .byteSent (itemEnd p s)
     else itemEnd p (counterEvent p .byteSent s))

/-- BYTE_SENT (R18), with a byte in flight. -/
def execByteSent (p : PortId) (keyinFirst : Bool) (s : State) : Host.Outcome State Fault Refusal :=
  match (s.port p).flight with
  | some { signal := .character _ _, .. } => .next (settle (finishByte p keyinFirst s))
  | _ => .next s

/-- BREAK_TOKEN_END (R18), with a BREAK token or a key-in BREAK item in flight: nothing is counted. -/
def execBreakTokenEnd (p : PortId) (s : State) : Host.Outcome State Fault Refusal :=
  match (s.port p).flight with
  | some { signal := .breakSpace _, .. } => .next (settle (freeTransmitter p (itemEnd p s)))
  | _ => .next s

/-! ### Auxiliary lines (R23, R24) -/

/-- The normal end of a pulse (R23). -/
def endPulse (p : PortId) (s : State) : State :=
  let s := s.modPort p fun q => { q with pulse := none }
  report none (.pulseEnd p) (raise .pulseDone (some p) 0 (writeMark p .pulseEnd 0 s))

/-- PULSE_TIMER_EXPIRY (R23), with a pulse in progress. -/
def execPulseTimerExpiry (p : PortId) (s : State) : Host.Outcome State Fault Refusal :=
  if (s.port p).pulse.isSome then .next (settle (endPulse p s)) else .next s

/-- The sample counted (R24): the qualified level, the count, and whether the level changed. Where a
switch has lowered the agree count to or below the count, the next differing sample reaches it (DESIGN
CHOICE, unsafe; assumption 34). -/
def Sense.sampled (agree period : Nat) (active : Bool) (x : Sense) : Sense × Bool :=
  if active = x.active then ({ x with count := 0, timer := some period }, false)
  else if agree ≤ x.count + 1 then ({ active := active, count := 0, timer := some period }, true)
  else ({ x with count := x.count + 1, timer := some period }, false)

/-- What a change of the qualified level does (R24). -/
def senseChanged (p : PortId) (active : Bool) (s : State) : State :=
  let arg := BitVec.ofNat 16 (flagByte active)
  let s := raise .senseChange (some p) arg (writeMark p .sense arg s)
  if active then report none (.senseOn p) s else s

/-- A sample of the AUX-B pin taken by the qualifier (R24): a low pin is active. -/
def takeSample (p : PortId) (high : Bool) (s : State) : State :=
  let q := s.port p
  let r := q.sense.sampled q.active.senseAgree q.active.sensePeriod (!high)
  let s := s.modPort p fun q => { q with sense := r.1, auxBHigh := high }
  if r.2 then senseChanged p (!high) s else s

/-- SENSE_SAMPLE (R24), with the function SENSE and the port not in DISABLED. -/
def execSenseSample (p : PortId) (high : Bool) (s : State) : Host.Outcome State Fault Refusal :=
  if (s.port p).active.auxB = .sense ∧ (s.port p).state ≠ .disabled then
    .next (settle (takeSample p high s))
  else .next (s.modPort p fun q => { q with auxBHigh := high })

end Sys2Proof.Machine
end

