-- ==== Sys2Proof/Machine/Delivery.lean ====
section
/-! DEFINITION. The delivery commands of a session (R87, R88, R98 to R103) and PULSE (R22, R176). -/

namespace Sys2Proof.Machine

/-! ### CREDIT and SEEK -/

def credit? : Request → Option Pos
  | .credit p => some p
  | _ => none

/-- CREDIT (R87): never replied; it changes nothing in a session that is not attached. -/
def execCredit (s : State) : Host.Outcome State Fault Refusal :=
  serve credit? (fun c p s => s.modAttachment c.session fun a => { a with credit := p }) s

/-- The values of a SEEK reply (R88). -/
def Attachment.seekValues (a : Attachment) (r : Ring) : List Byte :=
  encPos a.cursor ++ bytesOf 2 a.nextMark.toNat ++ encPos a.credit ++ encPos r.oldest ++
  encPos r.head

/-- The attachment after a SEEK (R88). -/
def Attachment.sought (a : Attachment) (r : Ring) (t : Target) : Attachment :=
  { a with
    cursor := (r.placeCursor t).1
    nextMark := r.search (r.placeCursor t).1 }

/-- SEEK as R88 serves it. -/
def serveSeek (c : Ctx) (x : Nat × Pos) (s : State) : State :=
  match target? x.1 x.2, (s.session c.session).attachment with
  | some t, some a =>
    let r := (s.port a.port).ring
    reply c (clampResult (r.placeCursor t).2) ((a.sought r t).seekValues r)
      (s.modAttachment c.session (·.sought r t))
  | _, _ => reply c .range [] s

def seek? : Request → Option (Nat × Pos)
  | .seek k p => some (k, p)
  | _ => none

/-- SEEK (R88). -/
def execSeek (s : State) : Host.Outcome State Fault Refusal :=
  serve seek? serveSeek s

/-! ### INPUT (R98 to R100) -/

/-- How the writer's INPUT stands against its input position (R99). -/
inductive InputCase where
  | gap
  | duplicate
  | fresh (skip : Nat)
  deriving DecidableEq, Repr

/-- The offset X and the length n set against IP (R99). -/
def inputCase (ip x : Word32) (n : Nat) : InputCase :=
  if !atOrBefore x ip then .gap
  else if n ≤ (ip - x).toNat then .duplicate
  else .fresh (ip - x).toNat

/-- The bytes appended: as many of the new ones as the queue has room for (R99). -/
def acceptedBytes (room skip : Nat) (bytes : List Byte) : List Byte :=
  (bytes.drop skip).take room

/-- The room of a keystroke queue (R20). -/
def Port.room (q : Port) : Nat := Config.queueItems - q.queue.length

/-- The last input status set, and INPUT_REPORT (R100). -/
def Attachment.inputTaken (status : InputStatus) (a : Attachment) : Attachment :=
  { a with lastInput := status, flags := { a.flags with inputReport := true } }

/-- New bytes appended (R99): IP advances, and the writer idle timer is restarted where at least one
byte was appended (R81). -/
def Attachment.advanceInput (n : Nat) (idle : Option Nat) (a : Attachment) : Attachment :=
  { a with
    ip := a.ip + BitVec.ofNat 32 n
    writerIdle := if n = 0 then a.writerIdle else idle }

/-- Items appended at the tail of a keystroke queue, and the transmitter's choice (R17, R20). -/
def appendItems (p : PortId) (items : List QueueItem) (s : State) : State :=
  txChoice p (s.modPort p fun q => { q with queue := q.queue ++ items })

/-- The writer's INPUT on a port not in DISABLED (R99). -/
def writerInput (k : SlotId) (a : Attachment) (x : Word32) (bytes : List Byte) (s : State) : State :=
  match inputCase a.ip x bytes.length with
  | .gap => s.modAttachment k (·.inputTaken .gap)
  | .duplicate => s.modAttachment k (·.inputTaken .ok)
  | .fresh skip =>
    let taken := acceptedBytes (s.port a.port).room skip bytes
    let status := if taken.length < bytes.length - skip then .full else .ok
    appendItems a.port (taken.map .byte)
      (s.modAttachment k fun a =>
        (a.advanceInput taken.length s.freshWriterIdle).inputTaken status)

/-- INPUT as R98 takes it: never replied. -/
def serveInput (c : Ctx) (i : Word32 × List Byte) (s : State) : State :=
  let k := c.session
  match (s.session k).attachment with
  | none => s
  | some a =>
    if !s.isWriter k then s.modAttachment k (·.inputTaken .notWriter)
    else if (s.port a.port).state = .disabled then s.modAttachment k (·.inputTaken .portDisabled)
    else writerInput k a i.1 i.2 s

def input? : Request → Option (Word32 × List Byte)
  | .input x bytes => some (x, bytes)
  | _ => none

/-- INPUT (R98). -/
def execInput (s : State) : Host.Outcome State Fault Refusal :=
  serve input? serveInput s

/-! ### BREAK (R102) -/

/-- BREAK as R102 serves it. -/
def serveBreak (c : Ctx) (s : State) : State :=
  match (s.session c.session).attachment with
  | none => reply c .notWriter [] s
  | some a =>
    if !s.isWriter c.session then reply c .notWriter [] s
    else if (s.port a.port).state = .disabled then reply c .portDisabled [] s
    else if (s.port a.port).room = 0 then reply c .full [] s
    else reply c .ok [] (appendItems a.port [.breakToken] s)

def break? : Request → Option Unit
  | .breakRequest => some ()
  | _ => none

/-- BREAK (R102). -/
def execBreakRequest (s : State) : Host.Outcome State Fault Refusal :=
  serve break? (fun c _ => serveBreak c) s

/-! ### RELEASE (R103, R176) -/

/-- The requester is the writer of the named port (R176). -/
def State.writerOf (s : State) (k : SlotId) (p : PortId) : Bool :=
  (s.port p).writer == some k && s.attachedTo k p

/-- RELEASE as R103 serves it. -/
def serveRelease (c : Ctx) (n : Nat) (s : State) : State :=
  match index? 32 n with
  | none => reply c .range [] s
  | some p =>
    if s.writerOf c.session p || (s.stationOf c).rights.manage then
      reply c .ok [] (releaseHold p s)
    else reply c .refusedAccess [] s

def release? : Request → Option Nat
  | .release n => some n
  | _ => none

/-- RELEASE (R103). -/
def execRelease (s : State) : Host.Outcome State Fault Refusal :=
  serve release? serveRelease s

/-! ### PULSE (R22, R176) -/

/-- PULSE as R176 and R22 serve it. -/
def servePulse (c : Ctx) (n : Nat) (s : State) : State :=
  if !(s.stationOf c).rights.pulse then reply c .refusedAccess [] s
  else
    match index? 32 n with
    | none => reply c .range [] s
    | some p =>
      if !inSet (s.stationOf c).ports p then reply c .refusedAccess [] s
      else
        match (s.port p).pulseRefusal with
        | some r => reply c r [] s
        | none => reply c .ok [] (startPulse p s)

def pulse? : Request → Option Nat
  | .pulse n => some n
  | _ => none

/-- PULSE (R22). -/
def execPulse (s : State) : Host.Outcome State Fault Refusal :=
  serve pulse? servePulse s

end Sys2Proof.Machine
end

