-- ==== Sys2Proof/Machine/Keyin.lean ====
section
/-! DEFINITION. The requests KEYIN_START (R146), KEYIN_STOP (R154), ARM (R143) and REARM (R115), and
the expiry of an interval timer (R150). -/

namespace Sys2Proof.Machine

/-- The values of a reply that carries an entry's state (R142). -/
def State.keyinStateValues (s : State) (e : KeyinId) : List Byte :=
  bytesOf 1 (s.keyin e).state.code

/-- The first three checks R143, R146 and R154 share: the KEYIN right, the entry number, and the
entry's port among the station's. -/
def withEntry (c : Ctx) (n : Nat) (act : KeyinId → State → State) (s : State) : State :=
  if !(s.stationOf c).rights.keyin then reply c .refusedAccess [] s
  else
    match index? 16 n with
    | none => reply c .range [] s
    | some e =>
      if !inSet (s.stationOf c).ports (s.keyin e).port then reply c .refusedAccess [] s
      else act e s

/-! ### KEYIN_START (R146) -/

/-- The checks 4 to 6 of R146, and the start. -/
def startRequested (c : Ctx) (e : KeyinId) (s : State) : State :=
  if !(s.keyin e).hasContent then reply c .range [] s
  else if (s.keyin e).engaged then reply c .inUse [] s
  else if (s.port (s.keyin e).port).state = .disabled then reply c .portDisabled [] s
  else
    let s := startStep (s.keyin e).port (makePending e s)
    reply c .ok (s.keyinStateValues e) s

def keyinStart? : Request → Option Nat
  | .keyinStart n => some n
  | _ => none

/-- KEYIN_START (R146). -/
def execKeyinStart (s : State) : Host.Outcome State Fault Refusal :=
  serve keyinStart? (fun c n => withEntry c n (startRequested c)) s

/-! ### KEYIN_STOP (R154) -/

/-- The act of R154: a RUNNING entry is stopped, a PENDING one withdrawn. -/
def stopRequested (c : Ctx) (e : KeyinId) (s : State) : State :=
  let s :=
    match (s.keyin e).state with
    | .running _ => stopEntry e .stoppedByRequest s
    | .pending => endEntry e .stoppedByRequest s
    | _ => s
  reply c .ok (s.keyinStateValues e) s

def keyinStop? : Request → Option Nat
  | .keyinStop n => some n
  | _ => none

/-- KEYIN_STOP (R154). -/
def execKeyinStop (s : State) : Host.Outcome State Fault Refusal :=
  serve keyinStop? (fun c n => withEntry c n (stopRequested c)) s

/-! ### ARM (R143) -/

/-- The checks 4 and 5 of R143, and the arming. -/
def armRequested (c : Ctx) (e : KeyinId) (s : State) : State :=
  if !(s.keyin e).hasContent then reply c .range [] s
  else if (s.keyin e).engaged then reply c .inUse [] s
  else
    let s := s.modKeyin e fun w => { w with state := .armed }
    reply c .ok (s.keyinStateValues e) s

def arm? : Request → Option Nat
  | .arm n => some n
  | _ => none

/-- ARM (R143). -/
def execArm (s : State) : Host.Outcome State Fault Refusal :=
  serve arm? (fun c n => withEntry c n (armRequested c)) s

/-! ### REARM (R115) -/

/-- The pattern armed on a port: its window there begins empty, unless it is armed already. -/
def PatternEntry.armOn (p : PortId) (e : PatternEntry) : PatternEntry :=
  match e.windows[p] with
  | none => { e with windows := e.windows.set p (some []) }
  | some _ => e

/-- The code by which REARM names all ports (R182). -/
def allPortsCode : Nat := 0xFF

/-- The ports a REARM of all ports arms: those of the pattern's set that the station may use. -/
def rearmPorts (t : Pattern) (w : Station) : List PortId :=
  allPorts.filter fun p => inSet t.ports p && inSet w.ports p

/-- The checks 2 to 5 of R115, and the arming. -/
def rearmRequested (c : Ctx) (pattern port : Nat) (s : State) : State :=
  match index? 64 pattern with
  | none => reply c .range [] s
  | some i =>
    if 32 ≤ port ∧ port ≠ allPortsCode then reply c .range [] s
    else
      match (s.patternEntry i).pattern with
      | none => reply c .range [] s
      | some t =>
        match index? 32 port with
        | some p =>
          if !inSet t.ports p then reply c .range [] s
          else if !inSet (s.stationOf c).ports p then reply c .refusedAccess [] s
          else reply c .ok [] (s.modPattern i (·.armOn p))
        | none =>
          reply c .ok [] (forEach (rearmPorts t (s.stationOf c)) (fun p s => s.modPattern i (·.armOn p)) s)

def rearmRequest? : Request → Option (Nat × Nat)
  | .rearm i p => some (i, p)
  | _ => none

/-- REARM (R115). -/
def execRearm (s : State) : Host.Outcome State Fault Refusal :=
  serve rearmRequest?
    (fun c x s =>
      if !(s.stationOf c).rights.keyin then reply c .refusedAccess [] s
      else rearmRequested c x.1 x.2 s) s

/-! ### INTERVAL_TIMER_EXPIRY (R150) -/

/-- The next cycle begins at its first item. -/
def Run.nextCycle (r : Run) : Run :=
  { r with interval := none, place := 0, cycle := r.cycle + 1 }

/-- The interval timer of a RUNNING entry expires: the next cycle begins and the transmitter chooses. -/
def intervalExpiry (e : KeyinId) (s : State) : State :=
  match (s.keyin e).run? with
  | none => s
  | some r =>
    if r.interval.isSome then txChoice (s.keyin e).port (s.modKeyin e (·.mapRun Run.nextCycle)) else s

/-- INTERVAL_TIMER_EXPIRY (R150). -/
def execIntervalTimerExpiry (e : KeyinId) (s : State) : Host.Outcome State Fault Refusal :=
  .next (settle (intervalExpiry e s))

end Sys2Proof.Machine
end

