-- ==== Sys2Proof/Machine/Manage.lean ====
section
/-! DEFINITION. The MANAGE operations (R177): table writes and reads, port operations and settings.
SAVE and WARM_RESTART stand in Startup.lean. -/

namespace Sys2Proof.Machine

/-! ### The Station Table (R59, R60) -/

def stationWrite? : Manage → Option StationWrite
  | .stationWrite w => some w
  | _ => none

def serveStationWrite (c : Ctx) (w : StationWrite) (s : State) : State :=
  match checkStation s w with
  | some (e, t) => reply c .ok [] (applyStation e t s)
  | none => reply c .range [] s

/-- STATION_WRITE (R59). -/
def execStationWrite (s : State) : Host.Outcome State Fault Refusal :=
  serveManage true stationWrite? serveStationWrite s

/-- The values of a STATION_READ reply (R60): the six fields, the session count and the commissioning
indication. -/
def State.stationValues (s : State) (e : StationId) : List Byte :=
  encStation ((s.station e).raw e.val) ++ bytesOf 1 (s.sessionCount e) ++ encFlag (s.isWildcard e)

def stationRead? : Manage → Option Nat
  | .stationRead n => some n
  | _ => none

def serveStationRead (c : Ctx) (n : Nat) (s : State) : State :=
  match index? 16 n with
  | some e => reply c .ok (s.stationValues e) s
  | none => reply c .range [] s

/-- STATION_READ (R60). -/
def execStationRead (s : State) : Host.Outcome State Fault Refusal :=
  serveManage false stationRead? serveStationRead s

/-! ### The Pattern Table (R107 to R109) -/

def patternWrite? : Manage → Option PatternWrite
  | .patternWrite w => some w
  | _ => none

def servePatternWrite (c : Ctx) (w : PatternWrite) (s : State) : State :=
  match checkPattern w with
  | some (i, t) => reply c .ok [] (applyPattern i t s)
  | none => reply c .range [] s

/-- PATTERN_WRITE (R107, R108). -/
def execPatternWrite (s : State) : Host.Outcome State Fault Refusal :=
  serveManage true patternWrite? servePatternWrite s

/-- The ports on which an entry is armed (R109). -/
def PatternEntry.armedSet (e : PatternEntry) : PortSet :=
  allPorts.foldl (fun ps p => if e.windows[p].isSome then ps ||| (1#32 <<< p.val) else ps) 0#32

/-- The values of a PATTERN_READ reply (R109). -/
def State.patternValues (s : State) (i : PatternId) : List Byte :=
  let e := s.patternEntry i
  encPattern (e.raw i.val) ++ bytesOf 4 e.matchCount.toNat ++ bytesOf 4 e.armedSet.toNat

def patternRead? : Manage → Option Nat
  | .patternRead n => some n
  | _ => none

def servePatternRead (c : Ctx) (n : Nat) (s : State) : State :=
  match index? 64 n with
  | some i => reply c .ok (s.patternValues i) s
  | none => reply c .range [] s

/-- PATTERN_READ (R109). -/
def execPatternRead (s : State) : Host.Outcome State Fault Refusal :=
  serveManage false patternRead? servePatternRead s

/-! ### The Comparator Table (R131, R132) -/

def comparatorWrite? : Manage → Option ComparatorWrite
  | .comparatorWrite w => some w
  | _ => none

def serveComparatorWrite (c : Ctx) (w : ComparatorWrite) (s : State) : State :=
  match checkComparator w with
  | some (i, x) => reply c .ok [] (applyComparator i x s)
  | none => reply c .range [] s

/-- COMPARATOR_WRITE (R131, R132). -/
def execComparatorWrite (s : State) : Host.Outcome State Fault Refusal :=
  serveManage true comparatorWrite? serveComparatorWrite s

/-- The values of a COMPARATOR_READ reply (R132): the fields and the last condition. -/
def State.comparatorValues (s : State) (i : ComparatorId) : List Byte :=
  encComparator ((s.comparator i).raw i.val) ++ encFlag (s.comparator i).last

def comparatorRead? : Manage → Option Nat
  | .comparatorRead n => some n
  | _ => none

def serveComparatorRead (c : Ctx) (n : Nat) (s : State) : State :=
  match index? 16 n with
  | some i => reply c .ok (s.comparatorValues i) s
  | none => reply c .range [] s

/-- COMPARATOR_READ (R132). -/
def execComparatorRead (s : State) : Host.Outcome State Fault Refusal :=
  serveManage false comparatorRead? serveComparatorRead s

/-! ### The Key-in Table (R139 to R141) -/

def keyinWrite? : Manage → Option KeyinWrite
  | .keyinWrite w => some w
  | _ => none

/-- The checks of R139 in order, and the write. -/
def serveKeyinWrite (c : Ctx) (w : KeyinWrite) (s : State) : State :=
  match index? 16 w.entry with
  | none => reply c .range [] s
  | some e =>
    if (s.keyin e).engaged then reply c .inUse [] s
    else
      match keyinFields? e w with
      | some x => reply c (clampResult (keyinClamped w)) [] (applyKeyin e x s)
      | none => reply c .range [] s

/-- KEYIN_WRITE (R139, R140). -/
def execKeyinWrite (s : State) : Host.Outcome State Fault Refusal :=
  serveManage true keyinWrite? serveKeyinWrite s

/-- The remaining repeats as an optional byte; the byte of "unlimited" is a free value
(assumption 9). -/
def KeyinEntry.remaining (w : KeyinEntry) : Option Nat :=
  w.run?.map fun r => r.remaining.getD Config.unlimitedRepeats.toNat

/-- The values of a KEYIN_READ reply (R141). The start position and the stop flag follow, with no flag
before them, for a RUNNING entry alone (DESIGN CHOICE, unsafe; assumption 35). -/
def State.keyinValues (s : State) (e : KeyinId) : List Byte :=
  let w := s.keyin e
  encKeyin (w.raw e.val) ++ bytesOf 1 w.state.code ++ encOption 1 w.remaining ++
  encByteOr (w.lastOutcome.map (·.code)) ++
  match w.run? with
  | some r => encPos r.start ++ encFlag r.stop.isSome
  | none => []

def keyinRead? : Manage → Option Nat
  | .keyinRead n => some n
  | _ => none

def serveKeyinRead (c : Ctx) (n : Nat) (s : State) : State :=
  match index? 16 n with
  | some e => reply c .ok (s.keyinValues e) s
  | none => reply c .range [] s

/-- KEYIN_READ (R141). -/
def execKeyinRead (s : State) : Host.Outcome State Fault Refusal :=
  serveManage false keyinRead? serveKeyinRead s

/-! ### Profiles (R3 to R5) -/

def profileWriteActive? : Manage → Option (Nat × RawProfile)
  | .profileWriteActive n r => some (n, r)
  | _ => none

def serveProfileWriteActive (c : Ctx) (x : Nat × RawProfile) (s : State) : State :=
  match index? 32 x.1 with
  | none => reply c .range [] s
  | some p =>
    match checkProfile true (s.port p).alloc x.2 with
    | some (f, wasClamped) => reply c (clampResult wasClamped) [] (applyActive p f 0 s)
    | none => reply c .range [] s

/-- PROFILE_WRITE_ACTIVE (R3, R4). -/
def execProfileWriteActive (s : State) : Host.Outcome State Fault Refusal :=
  serveManage true profileWriteActive? serveProfileWriteActive s

def profileWriteStaged? : Manage → Option (Nat × Option RawProfile)
  | .profileWriteStaged n r => some (n, r)
  | _ => none

def setStaged (p : PortId) (f : Option Profile) (s : State) : State :=
  s.modPort p fun q => { q with staged := f }

def serveProfileWriteStaged (c : Ctx) (x : Nat × Option RawProfile) (s : State) : State :=
  match index? 32 x.1 with
  | none => reply c .range [] s
  | some p =>
    match x.2 with
    | none => reply c .ok [] (setStaged p none s)
    | some r =>
      match checkProfile false (s.port p).alloc r with
      | some (f, wasClamped) => reply c (clampResult wasClamped) [] (setStaged p (some f) s)
      | none => reply c .range [] s

/-- PROFILE_WRITE_STAGED (R3, R5). -/
def execProfileWriteStaged (s : State) : Host.Outcome State Fault Refusal :=
  serveManage true profileWriteStaged? serveProfileWriteStaged s

/-! ### PORT_STATUS (R25, R53, R83, R127) -/

/-- The line fields of R25. Where no item is being sent, the flag of a key-in entry's item is 0 (DESIGN
CHOICE, unsafe; assumption 35). -/
def Port.lineStatus (q : Port) : List Byte :=
  bytesOf 1 q.state.code ++ encFlag q.rateFound ++ bytesOf 2 q.divisor ++
  bytesOf 3 (achievedRate q.divisor) ++ encProfile q.active.raw ++
  encStaged (q.staged.map (·.raw)) ++ encFlag q.hold ++ bytesOf 2 q.queue.length ++
  encFlag q.flight.isSome ++ encFlag ((q.flight.map (·.fromKeyin)).getD false) ++
  encFlag q.pulse.isSome ++ bytesOf 2 ((q.pulse.map tenMsUnits).getD 0xFFFF) ++
  encByteOr (if q.active.auxB = .sense then some (flagByte q.sense.active) else none) ++
  encByteOr (if q.active.auxB = .cts then some (flagByte (!q.auxBHigh)) else none)

/-- The ring fields of R53. -/
def Port.ringStatus (q : Port) : List Byte :=
  bytesOf 3 q.capacity ++ encPos q.ring.head ++ bytesOf 3 q.ring.fill ++ encPos q.ring.oldest ++
  bytesOf 1 q.ring.marks.length ++ encOption 2 (q.ring.marks.head?.map fun m => m.number.toNat) ++
  bytesOf 2 q.ring.nextMark.toNat

/-- The session fields of R83. -/
def State.sessionStatus (s : State) (p : PortId) : List Byte :=
  (match (s.port p).writer with
   | some k => bytesOf 1 k.val ++ [(s.session k).generation]
   | none => [0xFF, 0xFF]) ++
  encList ((s.port p).waitList.map fun k =>
    bytesOf 1 k.val ++ [(s.session k).generation] ++ bytesOf 1 (s.rankOf k)) ++
  bytesOf 1 (allSlots.countP fun k => s.attachedTo k p)

/-- The counters of R127, in the order of R124. -/
def Counters.status (k : Counters) : List Byte :=
  [k.rxb, k.txb, k.fer, k.per, k.brk, k.una, k.mat, k.deads].flatMap fun w => bytesOf 4 w.toNat

/-- The port status record. -/
def State.statusValues (s : State) (p : PortId) : List Byte :=
  (s.port p).lineStatus ++ (s.port p).ringStatus ++ s.sessionStatus p ++ (s.port p).counters.status

def portStatus? : Manage → Option Nat
  | .portStatus n => some n
  | _ => none

def servePortStatus (c : Ctx) (n : Nat) (s : State) : State :=
  match index? 32 n with
  | some p => reply c .ok (s.statusValues p) s
  | none => reply c .range [] s

/-- PORT_STATUS (R25). -/
def execPortStatus (s : State) : Host.Outcome State Fault Refusal :=
  serveManage false portStatus? servePortStatus s

/-! ### The Ring Allocation Table (R41 to R43) -/

def allocate? : Manage → Option (List Nat)
  | .allocate xs => some xs
  | _ => none

def serveAllocate (c : Ctx) (blocks : List Nat) (s : State) : State :=
  if s.vectorAllowed blocks then reply c .ok [] (applyVector blocks s) else reply c .range [] s

/-- ALLOCATE (R42, R43). -/
def execAllocate (s : State) : Host.Outcome State Fault Refusal :=
  serveManage true allocate? serveAllocate s

/-- The present allocation vector. -/
def State.allocations (s : State) : List Nat := allPorts.map fun p => (s.port p).alloc

/-- The values of an ALLOCATION_READ reply (R41). -/
def State.allocationValues (s : State) : List Byte :=
  s.allocations.flatMap (bytesOf 1) ++ bytesOf 2 (Config.storeBlocks - s.allocations.sum)

def allocationRead? : Manage → Option Unit
  | .allocationRead => some ()
  | _ => none

/-- ALLOCATION_READ (R41). -/
def execAllocationRead (s : State) : Host.Outcome State Fault Refusal :=
  serveManage false allocationRead? (fun c _ s => reply c .ok s.allocationValues s) s

/-! ### Port operations -/

def counterReset? : Manage → Option (Nat × Nat)
  | .counterReset p k => some (p, k)
  | _ => none

def serveCounterReset (c : Ctx) (x : Nat × Nat) (s : State) : State :=
  match index? 32 x.1, counter? x.2 with
  | some p, some k => reply c .ok [] (counterEvent p (.reset k) s)
  | _, _ => reply c .range [] s

/-- COUNTER_RESET (R128). -/
def execCounterReset (s : State) : Host.Outcome State Fault Refusal :=
  serveManage true counterReset? serveCounterReset s

def portRestart? : Manage → Option Nat
  | .portRestart n => some n
  | _ => none

def servePortRestart (c : Ctx) (n : Nat) (s : State) : State :=
  match index? 32 n with
  | some p => reply c .ok [] (restartPort p s)
  | none => reply c .range [] s

/-- PORT_RESTART (R26, R179). -/
def execPortRestart (s : State) : Host.Outcome State Fault Refusal :=
  serveManage true portRestart? servePortRestart s

/-! ### Settings (R178) -/

/-- A setting written, and the result answered. -/
def serveSetting {α : Type} (set : α → State → Result × State) (c : Ctx) (x : α) (s : State) :
    State :=
  reply c (set x s).1 [] (set x s).2

def stationAddressWrite? : Manage → Option Mac
  | .stationAddressWrite m => some m
  | _ => none

/-- STATION_ADDRESS_WRITE (R178). -/
def execStationAddressWrite (s : State) : Host.Outcome State Fault Refusal :=
  serveManage true stationAddressWrite? (serveSetting setAddress) s

def frameTypeWrite? : Manage → Option Nat
  | .frameTypeWrite n => some n
  | _ => none

/-- FRAME_TYPE_WRITE (R178). -/
def execFrameTypeWrite (s : State) : Host.Outcome State Fault Refusal :=
  serveManage true frameTypeWrite? (serveSetting setFrameType) s

def noticeDestinationWrite? : Manage → Option Mac
  | .noticeDestinationWrite m => some m
  | _ => none

/-- NOTICE_DESTINATION_WRITE (R165). -/
def execNoticeDestinationWrite (s : State) : Host.Outcome State Fault Refusal :=
  serveManage true noticeDestinationWrite? (serveSetting setDestination) s

def noticeMaskWrite? : Manage → Option Word32
  | .noticeMaskWrite w => some w
  | _ => none

/-- NOTICE_MASK_WRITE (R161). -/
def execNoticeMaskWrite (s : State) : Host.Outcome State Fault Refusal :=
  serveManage true noticeMaskWrite? (serveSetting setMask) s

def holdoffWrite? : Manage → Option Nat
  | .holdoffWrite n => some n
  | _ => none

/-- HOLDOFF_WRITE (R166). -/
def execHoldoffWrite (s : State) : Host.Outcome State Fault Refusal :=
  serveManage true holdoffWrite? (serveSetting setHoldoff) s

def sessionIdleLimitWrite? : Manage → Option Nat
  | .sessionIdleLimitWrite n => some n
  | _ => none

/-- SESSION_IDLE_LIMIT_WRITE (R82). -/
def execSessionIdleLimitWrite (s : State) : Host.Outcome State Fault Refusal :=
  serveManage true sessionIdleLimitWrite? (serveSetting setSessionLimit) s

def writerIdleLimitWrite? : Manage → Option Nat
  | .writerIdleLimitWrite n => some n
  | _ => none

/-- WRITER_IDLE_LIMIT_WRITE (R82). -/
def execWriterIdleLimitWrite (s : State) : Host.Outcome State Fault Refusal :=
  serveManage true writerIdleLimitWrite? (serveSetting setWriterLimit) s

def settingsRead? : Manage → Option Unit
  | .settingsRead => some ()
  | _ => none

/-- The values of a SETTINGS_READ reply (R178). -/
def State.settingsValues (s : State) : List Byte :=
  encSettings s.rawSettings ++ encFlag s.commissioning

/-- SETTINGS_READ (R178). -/
def execSettingsRead (s : State) : Host.Outcome State Fault Refusal :=
  serveManage false settingsRead? (fun c _ s => reply c .ok s.settingsValues s) s

def noticeRead? : Manage → Option Unit
  | .noticeRead => some ()
  | _ => none

/-- The values of a NOTICE_READ reply (R169). -/
def State.noticeValues (s : State) : List Byte :=
  let u := s.notice
  bytesOf 4 u.mask.toNat ++ encMac (u.destination.getD 0) ++ bytesOf 2 u.holdoff ++
  bytesOf 1 u.queue.length ++ encFlag u.overflow ++ encFlag u.timer.isSome ++
  encOption 1 (u.timer.map tenMsUnits) ++ bytesOf 2 u.sequence.toNat

/-- NOTICE_READ (R169). -/
def execNoticeRead (s : State) : Host.Outcome State Fault Refusal :=
  serveManage false noticeRead? (fun c _ s => reply c .ok s.noticeValues s) s

end Sys2Proof.Machine
end

