-- ==== Sys2Proof/Machine/Sessions.lean ====
section
/-! DEFINITION. The session commands (R64 to R71, R80, R81). -/

namespace Sys2Proof.Machine

/-! ### OPEN (R64) -/

/-- The lowest-numbered FREE slot. -/
def State.freeSlot (s : State) : Option SlotId :=
  allSlots.find? fun k => (s.session k).live.isNone

/-- The record of a session just opened (R64, R85). -/
def Session.openedBy (x : Session) (e : StationId) (rank : Nat) (peer : Mac) (idle : Nat) : Session where
  generation := x.generation + 1
  live := some { station := e, rank := rank, peer := peer, idle := idle, attachment := none }

/-- The reply to a successful OPEN carries the new handle in its header (R64, R174). -/
def Ctx.withHandle (c : Ctx) (k : SlotId) (generation : Byte) : Ctx :=
  { c with slot := BitVec.ofNat 8 k.val, generation := generation }

/-- The values of an OPEN reply: the rank, the rights and the session idle limit (R64). -/
def openValues (w : Station) (idleLimit : Nat) : List Byte :=
  bytesOf 1 w.rank ++ bytesOf 1 w.rights.code ++ bytesOf 2 idleLimit

/-- OPEN as R64 serves it. -/
def serveOpen (c : Ctx) (s : State) : State :=
  match c.station with
  | none => reply c .refusedAccess [] s
  | some e =>
    if (s.station e).limit ≤ s.sessionCount e then reply c .limit [] s
    else
      match s.freeSlot with
      | none => reply c .noSlot [] s
      | some k =>
        let w := s.station e
        let s := s.modSession k (·.openedBy e w.rank c.source (s.sessionLimit * 1000))
        reply (c.withHandle k (s.session k).generation) .ok (openValues w s.sessionLimit) s

def openSession? : Request → Option Unit
  | .openSession => some ()
  | _ => none

/-- OPEN (R64). -/
def execOpenSession (s : State) : Host.Outcome State Fault Refusal :=
  serve openSession? (fun c _ => serveOpen c) s

/-! ### CLOSE (R66) -/

def closeSession? : Request → Option Unit
  | .closeSession => some ()
  | _ => none

/-- CLOSE (R66). -/
def execCloseSession (s : State) : Host.Outcome State Fault Refusal :=
  serve closeSession? (fun c _ s => reply c .ok [] (closeSession c.session s)) s

/-! ### ATTACH (R67 to R70) -/

/-- The parameters of an ATTACH that pass the first check of R67. -/
structure AttachPlan where
  port    : PortId
  write   : Bool
  preempt : Bool
  wait    : Bool
  target  : Target
  deriving DecidableEq, Repr

/-- The first check of R67; the options are read only with role WRITE (DEDUCED, unsafe;
assumption 23). -/
def AttachRequest.plan (r : AttachRequest) : Option AttachPlan := do
  let port ← index? 32 r.port
  let write ← flag? r.role
  let target ← target? r.start r.position
  if write then
    let preempt ← flag? r.preempt
    let wait ← flag? r.wait
    some { port, write, preempt, wait, target }
  else some { port, write, preempt := false, wait := false, target }

/-- The contention of R69: the state after it, and FULL or BUSY where it gives one. -/
def contend (k : SlotId) (a : AttachPlan) (s : State) : State × Option Result :=
  match (s.port a.port).writer with
  | none => (writerChange a.port none (some k) s, none)
  | some w =>
    if a.preempt && s.rankOf w < s.rankOf k then (preempt a.port w k s, none)
    else if a.wait then
      if (s.port a.port).waitList.length < Config.waitPlaces then (joinWaitList a.port k s, none)
      else (s, some .full)
    else (s, some .busy)

/-- The values of an ATTACH reply (R70). -/
def State.attachValues (s : State) (k : SlotId) : List Byte :=
  match (s.session k).attachment with
  | none => []
  | some a =>
    bytesOf 1 (roleCode (s.isWriter k)) ++ encByteOr (s.waitPlace k) ++ encPos a.cursor ++
    encPos a.credit ++ bytesOf 2 a.nextMark.toNat ++ encPos (s.port a.port).ring.head ++
    bytesOf 1 (s.port a.port).state.code

/-- An ATTACH that passes R67 (R68 to R70). -/
def attachTo (c : Ctx) (r : AttachRequest) (a : AttachPlan) (s : State) : State :=
  let k := c.session
  let wasClamped := ((s.port a.port).ring.placeCursor a.target).2
  let s := placeSession k a.port a.target r.credit r.gather s
  let (s, refusal) := if a.write then contend k a s else (s, none)
  reply c (refusal.getD (clampResult wasClamped)) (s.attachValues k) s

/-- ATTACH as R67 serves it. -/
def serveAttach (c : Ctx) (r : AttachRequest) (s : State) : State :=
  match r.plan with
  | none => reply c .range [] s
  | some a =>
    if !inSet (s.stationOf c).ports a.port then reply c .refusedAccess [] s
    else if (s.port a.port).state = .disabled then reply c .portDisabled [] s
    else if (s.session c.session).attachment.isSome then reply c .inUse [] s
    else attachTo c r a s

def attach? : Request → Option AttachRequest
  | .attach r => some r
  | _ => none

/-- ATTACH (R67). -/
def execAttach (s : State) : Host.Outcome State Fault Refusal :=
  serve attach? serveAttach s

/-! ### DETACH (R71) -/

def detach? : Request → Option Unit
  | .detach => some ()
  | _ => none

/-- DETACH (R71). -/
def execDetach (s : State) : Host.Outcome State Fault Refusal :=
  serve detach? (fun c _ s => reply c .ok [] (detachSession c.session s)) s

/-! ### Idle timers (R80, R81) -/

/-- The session is not FREE, and its idle timer has run to its end (R80): a timer that a valid frame has
restarted does not expire. -/
def State.sessionIdleOver (s : State) (k : SlotId) : Bool :=
  match (s.session k).live with
  | some l => l.idle == 0
  | none => false

/-- SESSION_IDLE_EXPIRY (R80) of a session whose idle timer has run to its end. -/
def execSessionIdleExpiry (k : SlotId) (s : State) : Host.Outcome State Fault Refusal :=
  if s.sessionIdleOver k then
    .next (settle (raise .sessionTimeout none (BitVec.ofNat 16 k.val) (closeSession k s)))
  else .next s

/-- The session is a writer whose idle timer has run to its end (R81): a timer that an INPUT has
restarted does not expire. -/
def State.writerIdleOver (s : State) (k : SlotId) : Bool :=
  match (s.session k).attachment with
  | some a => a.writerIdle == some 0 && s.isWriter k
  | none => false

/-- The writer of the session's port released, the session staying attached (R77, R81). -/
def demoteWriter (k : SlotId) (s : State) : State :=
  match (s.session k).attachment with
  | none => s
  | some a => setIdleDemoted k (releaseWriter a.port s)

/-- WRITER_IDLE_EXPIRY (R81) of a writer whose idle timer has run to its end. -/
def execWriterIdleExpiry (k : SlotId) (s : State) : Host.Outcome State Fault Refusal :=
  if s.writerIdleOver k then .next (settle (demoteWriter k s)) else .next s

end Sys2Proof.Machine
end

