-- ==== Sys2Proof/Machine/Startup.lean ====
section
/-! DEFINITION. The configuration image (R183), SAVE (R185), cold reset and start-up (R184) and warm
restart (R186). -/

namespace Sys2Proof.Machine

/-! ### SAVE (R185) -/

/-- The Station Table record of an entry: entry 0 as invalid while the commissioning flag is set. -/
def State.stationRecord (s : State) (e : StationId) : ImageRecord :=
  .station ((if s.isWildcard e then Station.invalid else s.station e).raw e.val)

/-- The records a SAVE copies (R183, R185). -/
def State.imageRecords (s : State) : List ImageRecord :=
  [.settings s.rawSettings, .allocation (allPorts.map fun p => (s.port p).alloc)] ++
  allStations.map s.stationRecord ++
  allPorts.map (fun p => .profile p.val (s.port p).active.raw) ++
  allPatterns.map (fun i => .pattern ((s.patternEntry i).raw i.val)) ++
  allKeyins.map (fun e => .keyin ((s.keyin e).raw e.val)) ++
  allComparators.map (fun i => .comparator ((s.comparator i).raw i.val))

/-- SAVE as it is taken (R185): the copy is made, OK is answered, and the save is in progress. -/
def serveSave (c : Ctx) (s : State) : State :=
  reply c .ok [] { s with saving := some s.imageRecords }

def save? : Manage → Option Unit
  | .save => some ()
  | _ => none

/-- SAVE (R185). -/
def execSave (s : State) : Host.Outcome State Fault Refusal :=
  serveManage true save? (fun c _ => serveSave c) s

/-- A memory that has acknowledged every write of a save (R185): the header holds the marker, the length
of the records and their true sum. -/
def savedMemory (records : List ImageRecord) : ConfigMemory where
  answers := true
  marker := true
  length := (imageBytes records).length
  sum := byteSum (imageBytes records)
  records := records
  rest := []

/-- A memory in which a save stopped after its first write: it holds no good image (R185). That it is the
marker that is missing is the model's (DEDUCED, unsafe; assumption 27). -/
def spoiledMemory (m : ConfigMemory) : ConfigMemory := { m with marker := false }

/-- SAVE_DONE (R185), with a save in progress. -/
def execSaveDone (s : State) : Host.Outcome State Fault Refusal :=
  match s.saving with
  | none => .next s
  | some records =>
    .next (raise .saveDone none 0 { s with saving := none, memory := savedMemory records })

/-- SAVE_FAILED (R185), with a save in progress: no good image is left (DEDUCED, unsafe;
assumption 27). -/
def execSaveFailed (s : State) : Host.Outcome State Fault Refusal :=
  match s.saving with
  | none => .next s
  | some _ =>
    .next (raise .saveFailed none 0 { s with saving := none, memory := spoiledMemory s.memory })

/-! ### Cold start: the image (R183) -/

/-- The sum computed over the stated length equals the stored sum (R183). Of a length that runs past the
bytes the memory holds, only those bytes are summed (DESIGN CHOICE, unsafe; assumption 41). -/
def sumAgrees (m : ConfigMemory) : Bool :=
  byteSum ((imageBytes m.records ++ m.rest).take m.length) == m.sum

/-- The three conditions of a good image (R183). -/
def imageGood (m : ConfigMemory) : Bool := m.answers && m.marker && sumAgrees m

/-- The records that stand whole within a length in bytes. -/
def recordsWithin : Nat → List ImageRecord → List ImageRecord
  | _, [] => []
  | n, r :: rs =>
    if (recordBytes r).length ≤ n then r :: recordsWithin (n - (recordBytes r).length) rs else []

/-- The records of the image: those that the stated length takes in (R183). Bytes that name no kind of
record, and what follows them, are summed and not applied (DESIGN CHOICE, unsafe; assumption 44). -/
def imageRecordsOf (m : ConfigMemory) : List ImageRecord := recordsWithin m.length m.records

/-- The argument of IMAGE_FAULT for a memory that holds no good image (R183). -/
def imageFaultArgument (m : ConfigMemory) : Word16 := if m.answers && m.marker then 2 else 1

/-- The settings record, setting by setting, each skipped alone where it would be refused. -/
def loadSettings (r : RawSettings) (s : State) : State :=
  let s := (setAddress r.address s).2
  let s := (setFrameType r.frameType s).2
  let s := (setMask r.mask s).2
  let s := (setDestination r.destination s).2
  let s := (setHoldoff r.holdoff s).2
  let s := (setSessionLimit r.sessionLimit s).2
  (setWriterLimit r.writerLimit s).2

def loadStation (w : StationWrite) (s : State) : State :=
  match checkStation s w with
  | some (e, t) => applyStation e t s
  | none => s

def loadAllocation (blocks : List Nat) (s : State) : State :=
  if s.vectorAllowed blocks then applyVector blocks s else s

/-- An active profile stored, its port held in DISABLED (R184, step 5). -/
def loadProfile (n : Nat) (r : RawProfile) (s : State) : State :=
  match index? 32 n with
  | none => s
  | some p =>
    match checkProfile true (s.port p).alloc r with
    | some (f, _) => s.modPort p (·.setActive f)
    | none => s

def loadPattern (w : PatternWrite) (s : State) : State :=
  match checkPattern w with
  | some (i, t) => applyPattern i t s
  | none => s

def loadKeyin (w : KeyinWrite) (s : State) : State :=
  match index? 16 w.entry with
  | none => s
  | some e =>
    match keyinFields? e w with
    | some x => applyKeyin e x s
    | none => s

def loadComparator (w : ComparatorWrite) (s : State) : State :=
  match checkComparator w with
  | some (i, x) => applyComparator i x s
  | none => s

/-- The part of start-up that takes a record (R184): the settings at step 2 to the comparators at
step 8. -/
inductive LoadStep where
  | settings
  | station (e : StationId)
  | allocation | profile | pattern | keyin
  | comparator (i : ComparatorId)
  deriving DecidableEq, Repr

/-- A record applied at its step, and at no other (R183, R184). -/
def loadRecord (step : LoadStep) (r : ImageRecord) (s : State) : State :=
  match step, r with
  | .settings, .settings x => loadSettings x s
  | .station e, .station w => if w.entry = e.val then loadStation w s else s
  | .allocation, .allocation blocks => loadAllocation blocks s
  | .profile, .profile n x => loadProfile n x s
  | .pattern, .pattern w => loadPattern w s
  | .keyin, .keyin w => loadKeyin w s
  | .comparator i, .comparator w => if w.entry = i.val then loadComparator w s else s
  | _, _ => s

/-- One step of the loading: every record of its kind, in the order of the image (DEDUCED, unsafe;
assumption 29). -/
def loadStep (records : List ImageRecord) (step : LoadStep) (s : State) : State :=
  forEach records (loadRecord step) s

/-- The commissioning pin applied (R61). -/
def applyCommission (high : Bool) (s : State) : State :=
  if high then { s with commissioning := true, stations := s.stations.set 0 Station.wildcard }
  else { s with commissioning := false }

/-- The loading of steps 2 and 3, before the commissioning pin. -/
def earlySteps : List LoadStep := .settings :: allStations.map .station

/-- The loading of steps 4 to 8. -/
def lateSteps : List LoadStep :=
  [.allocation, .profile, .pattern, .keyin] ++ allComparators.map .comparator

/-- Step 9 of R184 for one port. The ports are taken in ascending number (DESIGN CHOICE, unsafe;
assumption 13). -/
def startPort (p : PortId) (s : State) : State :=
  if (s.port p).active.enable then profileSwitch p (s.port p).active 4 s else s

/-! ### Cold reset (R184) -/

/-- The memory start-up reads (R185): a memory newly fitted; else the one the part left, its marker
gone where a save had made its first write. A reset in the middle of the save's last write leaves no
marker either (DEDUCED, unsafe; assumption 27). -/
def memoryAfter (x : ColdInputs) (s : State) : ConfigMemory :=
  match x.fitted with
  | some m => m
  | none => if s.saving.isSome && x.saveStarted then spoiledMemory s.memory else s.memory

/-- Every block at the values its chapter states (R184); the levels of the input pins, the memory and
the commands that wait are the outside's (DESIGN CHOICE, safe; assumption 31). -/
def coldState (x : ColdInputs) (s : State) : State :=
  { State.reset with
    ports := tabMap (fun q => Port.reset q.rxMark q.auxBHigh) s.ports
    uplink := Uplink.reset x.straps
    memory := memoryAfter x s
    pending := s.pending }

/-- Steps 1 to 8 of R184. -/
def loadImage (commission : Bool) (s : State) : State :=
  let m := s.memory
  if imageGood m then
    forEach lateSteps (loadStep (imageRecordsOf m))
      (applyCommission commission (forEach earlySteps (loadStep (imageRecordsOf m)) s))
  else applyCommission commission (raise .imageFault none (imageFaultArgument m) s)

/-- Uplink receive opens (R184, step 10). -/
def openReceive (s : State) : State :=
  { s with uplink := { s.uplink with receiveOpen := true } }

/-- The ten steps of R184. -/
def startUp (commission : Bool) (s : State) : State :=
  openReceive (forEach allPorts startPort (loadImage commission s))

/-- COLD_RESET (R184). -/
def execColdReset (x : ColdInputs) (s : State) : Host.Outcome State Fault Refusal :=
  .next (settle (startUp x.commission (coldState x s)))

/-! ### Warm restart (R186) -/

/-- Step 1 of R186 for one slot (R84). -/
def restartSession (k : SlotId) (s : State) : State :=
  if (s.session k).live.isSome then closeSession k s else s

/-- Step 2 of R186 for one port (R159): no AFTER report and no start step. -/
def restartQueues (p : PortId) (s : State) : State :=
  let s := cutPulse p (s.modPort p fun q => { q with queue := [], hold := false })
  forEach (s.engagedOn p) (fun e => endRecord e .abortedRestart) s

/-- Steps 3 and 4 of R186 at the ports, comparators, notice unit and uplink. -/
def zeroCounts (s : State) : State :=
  { s with
    ports := tabMap (fun q => { q with counters := Counters.zero, ring := Ring.reset }) s.ports
    comparators := tabMap (fun c => { c with last := false }) s.comparators
    notice := { s.notice with queue := [], overflow := false, timer := none, sequence := 0 }
    uplink := { s.uplink with counters := UplinkCounters.zero, roundRobin := 63 } }

/-- A pattern entry after step 5 of R186 (R123). -/
def PatternEntry.rearmed (e : PatternEntry) : PatternEntry :=
  { e with matchCount := 0, windows := armedWindows e.pattern }

/-- A key-in entry after step 5 of R186 (R159). -/
def KeyinEntry.restarted (w : KeyinEntry) : KeyinEntry :=
  { w with state := if w.autoArm then .armed else .idle }

/-- Step 5 of R186. -/
def rearmTables (s : State) : State :=
  { s with
    patterns := tabMap PatternEntry.rearmed s.patterns
    keyins := tabMap KeyinEntry.restarted s.keyins }

/-- Step 6 of R186 for one port (R26, R27). -/
def restartLine (p : PortId) (s : State) : State :=
  if (s.port p).state = .disabled then clearWindows p s
  else profileSwitch p (s.port p).active 3 s

/-- The six steps of R186. -/
def warmEffects (s : State) : State :=
  let s := forEach allPorts restartQueues (forEach allSlots restartSession s)
  forEach allPorts restartLine (rearmTables (zeroCounts s))

/-- WARM_RESTART as it is taken: the REPLY is queued first (R179, R186). -/
def serveWarmRestart (c : Ctx) (s : State) : State := warmEffects (reply c .ok [] s)

def warmRestart? : Manage → Option Unit
  | .warmRestart => some ()
  | _ => none

/-- WARM_RESTART (R186). -/
def execWarmRestart (s : State) : Host.Outcome State Fault Refusal :=
  serveManage true warmRestart? (fun c _ => serveWarmRestart c) s

end Sys2Proof.Machine
end

