-- ==== Sys2Proof/Machine/Uplink.lean ====
section
/-! DEFINITION. The uplink (R171 to R174, R180, R181), the uplink transmitter's three turns (R92 to
R96, R167) and the two timers of the uplink side (R90, R166). -/

namespace Sys2Proof.Machine

/-! ### Arriving frames (R171) -/

/-- Six bytes of a frame as an address. -/
def macOf (bs : List Byte) : Mac := BitVec.ofNat 48 (natOf (bs.take 6))

def destinationOf (bytes : List Byte) : Mac := macOf bytes

def sourceOf (bytes : List Byte) : Mac := macOf (bytes.drop 6)

def typeOf (bytes : List Byte) : Word16 := BitVec.ofNat 16 (natOf ((bytes.drop 12).take 2))

/-- The data field: what stands between the type field and the FCS. -/
def dataField (bytes : List Byte) : List Byte := (bytes.drop 14).take (bytes.length - 18)

/-- The broadcast address (R171). -/
def broadcastAddress : Mac := BitVec.allOnes 48

/-- The address is a group address: its first byte is odd. -/
def isGroup (m : Mac) : Bool := m.getLsbD 40

/-- The frame fails test 3 of R171. -/
def State.notForUs (s : State) (bytes : List Byte) : Bool :=
  (destinationOf bytes != s.uplink.address && destinationOf bytes != broadcastAddress) ||
    isGroup (sourceOf bytes) || typeOf bytes != s.uplink.frameType

/-- The frame as it stands in the receive queue. -/
def receivedFrame (bytes : List Byte) : RxFrame where
  broadcast := destinationOf bytes == broadcastAddress
  source := sourceOf bytes
  data := dataField bytes

/-- The filter of R171. -/
def receiveFrame (bytes : List Byte) (bad : Bool) (s : State) : State :=
  if !s.uplink.receiveOpen then s
  else if bad then s.countUplink (·.countBadFcs)
  else if bytes.length < 64 ∨ 1518 < bytes.length then s.countUplink (·.countMalformed)
  else if s.notForUs bytes then s.countUplink (·.countNotMine)
  else if Config.uplinkFrames ≤ s.uplink.rxQueue.length then s.countUplink (·.countFull)
  else
    { s with uplink := { s.uplink with rxQueue := s.uplink.rxQueue ++ [receivedFrame bytes] } }

/-- FRAME_RECEIVE (R171). -/
def execFrameReceive (bytes : List Byte) (bad : Bool) (s : State) :
    Host.Outcome State Fault Refusal :=
  .next (receiveFrame bytes bad s)

/-- MALFORMED_FRAME (R173): the oldest frame fails step 1, 3, 4 or 5 and is dropped and counted.
One row serves the four drops (DESIGN CHOICE, safe; assumption 8). -/
def execMalformedFrame (s : State) : Host.Outcome State Fault Refusal :=
  match s.oldestFrame with
  | none => .next s
  | some f =>
    match s.classify f with
    | .malformed => .next ((removeFrame s).countUplink (·.countMalformed))
    | .notMine => .next ((removeFrame s).countUplink (·.countNotMine))
    | .stale => .next ((removeFrame s).countUplink (·.countStale))
    | _ => .next s

/-- A MANAGE request that no other row of the table serves, and whether it is a write: an operation
code outside R177, a setting outside R178, or a profile that is neither active nor staged. -/
def unnamed? : Request → Option Bool
  | .manage _ .otherOperation => some false
  | .manage _ .settingWriteOther => some true
  | .manage _ .profileWriteOther => some true
  | _ => none

/-- UNKNOWN_KIND (R173, step 2). The row also takes a MANAGE frame that names no operation, setting
or profile of the manual, which is refused with RANGE (R177, R178; DESIGN CHOICE, safe;
assumption 8). -/
def execUnknownKind (s : State) : Host.Outcome State Fault Refusal :=
  match s.oldestFrame.map s.classify with
  | some .unknownKind =>
    match s.oldestFrame with
    | some f => .next (reply (s.ctx f none) .unknownKind [] (removeFrame s))
    | none => .next s
  | _ => serve unnamed? (fun c isWrite => managed isWrite c (reply c .range [])) s

/-! ### PROBE (R180) -/

/-- The summary of one port in a PROBE reply. -/
def Port.probeSummary (q : Port) : List Byte :=
  bytesOf 1 q.state.code ++ encByteOr (q.writer.map Fin.val) ++ encFlag q.hold ++ bytesOf 1 q.alloc

/-- The values of a PROBE reply. -/
def State.probeValues (s : State) : List Byte :=
  encMac s.uplink.address ++ bytesOf 2 s.uplink.frameType.toNat ++ bytesOf 1 Config.vendorCode ++
  bytesOf 2 Config.partCode ++ bytesOf 1 Config.siliconRevision ++ encFlag s.commissioning ++
  encFlag s.saving.isSome ++ encUplinkCounters s.uplink.counters ++
  allPorts.flatMap fun p => (s.port p).probeSummary

/-- The row's request. -/
def probe? : Request → Option Unit
  | .probe => some ()
  | _ => none

/-- PROBE (R180). -/
def execProbe (s : State) : Host.Outcome State Fault Refusal :=
  serve probe? (fun c _ s => reply c .ok s.probeValues s) s

/-! ### The uplink transmitter (R92) -/

/-- REPLY_TURN: the oldest REPLY is removed and sent (R92, R174). -/
def execReplyTurn (s : State) : Host.Outcome State Fault Refusal :=
  match s.uplink.replies with
  | [] => .next s
  | r :: rest =>
    .next (sendFrame r.dest r.data { s with uplink := { s.uplink with replies := rest } })

/-- A NOTICE frame is due (R166). -/
def State.noticeDue (s : State) : Bool :=
  !s.notice.queue.isEmpty && s.notice.destination.isSome && s.notice.timer.isNone

/-- The frame the notice unit composes (R167, steps 1 to 4). -/
def NoticeUnit.compose (u : NoticeUnit) : NoticeFrame where
  sequence := u.sequence
  records := u.queue.take Config.perFrame
  overflow := u.overflow
  remaining := (u.queue.drop Config.perFrame).length

/-- The notice unit after a composition (R167, steps 3 and 5 to 7). -/
def NoticeUnit.composed (u : NoticeUnit) : NoticeUnit :=
  { u with
    queue := u.queue.drop Config.perFrame
    sequence := u.sequence + 1
    overflow := false
    timer := if u.holdoff = 0 then none else some (u.holdoff * 10) }

/-- NOTICE_TURN (R92, R167): granted where no REPLY waits and a NOTICE frame is due. -/
def execNoticeTurn (s : State) : Host.Outcome State Fault Refusal :=
  if s.uplink.replies.isEmpty && s.noticeDue then
    match s.notice.destination with
    | some m => .next (sendFrame m s.notice.compose.data { s with notice := s.notice.composed })
    | none => .next s
  else .next s

/-- The session is attached and ready (R91). -/
def State.ready (s : State) (k : SlotId) : Bool :=
  match (s.session k).attachment with
  | some a => a.ready (s.port a.port).ring
  | none => false

/-- The slots in the order R93 considers them: from the place plus 1, ending with the place. -/
def slotsAfter (place : SlotId) : List SlotId :=
  (List.range 64).map fun i => Fin.ofNat 64 (place.val + 1 + i)

/-- The session R93 chooses. -/
def State.nextReady (s : State) : Option SlotId :=
  (slotsAfter s.uplink.roundRobin).find? s.ready

/-- The marks a frame carries (R94, steps 3 and 4). -/
def Attachment.frameMarks (a : Attachment) (r : Ring) : List Mark :=
  (a.candidates r).take Config.perFrame

/-- The end of a frame (R94, steps 3 and 4): the position of the ninth candidate where there is one. -/
def Attachment.dataEnd (a : Attachment) (r : Ring) : Pos :=
  match (a.candidates r)[Config.perFrame]? with
  | some m => m.position
  | none => a.frameEnd r

/-- The contents of a DATA frame for an attached session (R94, R95). -/
def State.buildData (s : State) (k : SlotId) (a : Attachment) : DataFrame :=
  let q := s.port a.port
  { slot := k
    generation := (s.session k).generation
    start := a.cursor
    bytes := q.ring.bytesFrom a.cursor (a.dataEnd q.ring - a.cursor).toNat
    marks := a.frameMarks q.ring
    port := a.port
    writer := s.isWriter k
    waitPlace := s.waitPlace k
    lastInput := a.lastInput
    flags := a.flags
    portState := q.state
    hold := q.hold
    markLoss := a.markLoss
    ip := a.ip
    lost := a.lost
    head := q.ring.head
    credit := a.credit }

/-- The attachment after the building of a frame (R96); the content test that follows loads the
gather timer afresh where content remains (R90). -/
def Attachment.advanced (a : Attachment) (r : Ring) : Attachment :=
  { a with
    cursor := a.dataEnd r
    nextMark := match (a.frameMarks r).getLast? with
      | some m => m.number + 1
      | none => a.nextMark
    markLoss := false
    flags := .none
    gather := .stopped }

/-- A DATA frame built for a session and sent to its peer (R92, R94 to R96). -/
def sendData (k : SlotId) (s : State) : State :=
  match (s.session k).live with
  | none => s
  | some l =>
    match l.attachment with
    | none => s
    | some a =>
      let r := (s.port a.port).ring
      let s' := s.modAttachment k (·.advanced r)
      sendFrame l.peer (s.buildData k a).data
        { s' with uplink := { s'.uplink with roundRobin := k } }

/-- DATA_TURN (R92, R93): granted where no REPLY waits, no NOTICE frame is due and a session is
ready. -/
def execDataTurn (s : State) : Host.Outcome State Fault Refusal :=
  if s.uplink.replies.isEmpty && !s.noticeDue then
    match s.nextReady with
    | some k => .next (settle (sendData k s))
    | none => .next s
  else .next s

/-! ### Timers -/

/-- GATHER_TIMER_EXPIRY (R90): a RUNNING timer becomes EXPIRED. -/
def execGatherTimerExpiry (k : SlotId) (s : State) : Host.Outcome State Fault Refusal :=
  .next (s.modAttachment k fun a =>
    match a.gather with
    | .running _ => { a with gather := .expired }
    | _ => a)

/-- HOLDOFF_TIMER_EXPIRY (R166): the timer becomes RUN OUT. -/
def execHoldoffTimerExpiry (s : State) : Host.Outcome State Fault Refusal :=
  .next { s with notice := { s.notice with timer := none } }

end Sys2Proof.Machine
end

