-- ==== Sys2Proof/Machine/Dispatch.lean ====
section
/-! DEFINITION. The dispatch: one arm for each constructor of Instr, in the order of the opcode table,
each a direct call of that command's meaning. -/

namespace Sys2Proof.Machine

def exec (i : Instr) (s : State) : Host.Outcome State Fault Refusal :=
  match i with
  | .coldReset inputs => Sys2Proof.Machine.execColdReset inputs s
  | .frameReceive bytes bad => Sys2Proof.Machine.execFrameReceive bytes bad s
  | .malformedFrame => Sys2Proof.Machine.execMalformedFrame s
  | .unknownKind => Sys2Proof.Machine.execUnknownKind s
  | .probe => Sys2Proof.Machine.execProbe s
  | .openSession => Sys2Proof.Machine.execOpenSession s
  | .closeSession => Sys2Proof.Machine.execCloseSession s
  | .attach => Sys2Proof.Machine.execAttach s
  | .detach => Sys2Proof.Machine.execDetach s
  | .seek => Sys2Proof.Machine.execSeek s
  | .credit => Sys2Proof.Machine.execCredit s
  | .input => Sys2Proof.Machine.execInput s
  | .breakRequest => Sys2Proof.Machine.execBreakRequest s
  | .release => Sys2Proof.Machine.execRelease s
  | .pulse => Sys2Proof.Machine.execPulse s
  | .keyinStart => Sys2Proof.Machine.execKeyinStart s
  | .keyinStop => Sys2Proof.Machine.execKeyinStop s
  | .arm => Sys2Proof.Machine.execArm s
  | .rearm => Sys2Proof.Machine.execRearm s
  | .stationWrite => Sys2Proof.Machine.execStationWrite s
  | .stationRead => Sys2Proof.Machine.execStationRead s
  | .patternWrite => Sys2Proof.Machine.execPatternWrite s
  | .patternRead => Sys2Proof.Machine.execPatternRead s
  | .comparatorWrite => Sys2Proof.Machine.execComparatorWrite s
  | .comparatorRead => Sys2Proof.Machine.execComparatorRead s
  | .keyinWrite => Sys2Proof.Machine.execKeyinWrite s
  | .keyinRead => Sys2Proof.Machine.execKeyinRead s
  | .profileWriteActive => Sys2Proof.Machine.execProfileWriteActive s
  | .profileWriteStaged => Sys2Proof.Machine.execProfileWriteStaged s
  | .portStatus => Sys2Proof.Machine.execPortStatus s
  | .allocate => Sys2Proof.Machine.execAllocate s
  | .allocationRead => Sys2Proof.Machine.execAllocationRead s
  | .counterReset => Sys2Proof.Machine.execCounterReset s
  | .portRestart => Sys2Proof.Machine.execPortRestart s
  | .stationAddressWrite => Sys2Proof.Machine.execStationAddressWrite s
  | .frameTypeWrite => Sys2Proof.Machine.execFrameTypeWrite s
  | .noticeDestinationWrite => Sys2Proof.Machine.execNoticeDestinationWrite s
  | .noticeMaskWrite => Sys2Proof.Machine.execNoticeMaskWrite s
  | .holdoffWrite => Sys2Proof.Machine.execHoldoffWrite s
  | .sessionIdleLimitWrite => Sys2Proof.Machine.execSessionIdleLimitWrite s
  | .writerIdleLimitWrite => Sys2Proof.Machine.execWriterIdleLimitWrite s
  | .settingsRead => Sys2Proof.Machine.execSettingsRead s
  | .noticeRead => Sys2Proof.Machine.execNoticeRead s
  | .save => Sys2Proof.Machine.execSave s
  | .saveDone => Sys2Proof.Machine.execSaveDone s
  | .saveFailed => Sys2Proof.Machine.execSaveFailed s
  | .warmRestart => Sys2Proof.Machine.execWarmRestart s
  | .replyTurn => Sys2Proof.Machine.execReplyTurn s
  | .noticeTurn => Sys2Proof.Machine.execNoticeTurn s
  | .dataTurn => Sys2Proof.Machine.execDataTurn s
  | .gatherTimerExpiry slot => Sys2Proof.Machine.execGatherTimerExpiry slot s
  | .sessionIdleExpiry slot => Sys2Proof.Machine.execSessionIdleExpiry slot s
  | .writerIdleExpiry slot => Sys2Proof.Machine.execWriterIdleExpiry slot s
  | .holdoffTimerExpiry => Sys2Proof.Machine.execHoldoffTimerExpiry s
  | .byteStored port data parityBit order => Sys2Proof.Machine.execByteStored port data parityBit order s
  | .framingError port => Sys2Proof.Machine.execFramingError port s
  | .breakRecorded port => Sys2Proof.Machine.execBreakRecorded port s
  | .deadThreshold port => Sys2Proof.Machine.execDeadThreshold port s
  | .liveQualification port => Sys2Proof.Machine.execLiveQualification port s
  | .detectorRun port edge mark => Sys2Proof.Machine.execDetectorRun port edge mark s
  | .detectionWindowExpiry port => Sys2Proof.Machine.execDetectionWindowExpiry port s
  | .switchingEnd port => Sys2Proof.Machine.execSwitchingEnd port s
  | .transmitterChoice port high => Sys2Proof.Machine.execTransmitterChoice port high s
  | .byteSent port keyinFirst => Sys2Proof.Machine.execByteSent port keyinFirst s
  | .breakTokenEnd port => Sys2Proof.Machine.execBreakTokenEnd port s
  | .intervalTimerExpiry entry => Sys2Proof.Machine.execIntervalTimerExpiry entry s
  | .ctsAssert port => Sys2Proof.Machine.execCtsAssert port s
  | .pulseTimerExpiry port => Sys2Proof.Machine.execPulseTimerExpiry port s
  | .senseSample port high => Sys2Proof.Machine.execSenseSample port high s
  | .spaceRunEnd port => Sys2Proof.Machine.execSpaceRunEnd port s

end Sys2Proof.Machine
end

