-- ==== Sys2Proof/Machine/Step.lean ====
section
/-! DEFINITION. One step of the part: the command at the front of the queue is taken and carried out;
with no command waiting, a millisecond passes (DESIGN CHOICE, unsafe; assumption 4). -/

namespace Sys2Proof.Machine

/-- One step. -/
def step (s : State) : Host.Outcome State Fault Refusal :=
  match s.pending with
  | [] => .next (tick s)
  | c :: rest => exec c { s with pending := rest }

/-- The command put at the front of the queue. -/
def State.pushFront (c : Instr) (s : State) : State := { s with pending := c :: s.pending }

/-- The command a word spells put at the front of the queue; the state unchanged where it spells
none. -/
def State.withFetchWord (s : State) (nbits w : Nat) : State :=
  match decodeTableWord nbits w with
  | some c => s.pushFront c
  | none => s

end Sys2Proof.Machine
end

