-- ==== Sys2Proof/Safety.lean ====
section
/-! DEFINITION. What a sound state of the part is, in the terms claims use: the invariants that the
chapters state of each block, and the words in which the claims name a served frame. Every predicate
is decidable on a concrete state. -/

namespace Sys2Proof.Machine

/-! ### Lines and profiles -/

/-- Every sample divisor is one R28 allows. -/
abbrev State.divisorsLegal (s : State) : Prop :=
  ∀ p : PortId, 16 ≤ (s.port p).divisor ∧ (s.port p).divisor ≤ 65535

/-- Every field of the profile is in the range of R2, and CTS flow has the CTS function (R3). -/
abbrev Profile.inRange (f : Profile) : Prop :=
  legalRate f.fixedRate ∧
  (1 ≤ f.rateList.length ∧ f.rateList.length ≤ 8 ∧ (∀ r ∈ f.rateList, legalRate r) ∧ f.rateList.Nodup) ∧
  (1 ≤ f.tolerance ∧ f.tolerance ≤ 8) ∧ (8 ≤ f.runsNeeded ∧ f.runsNeeded ≤ 64) ∧
  (1 ≤ f.detectWindow ∧ f.detectWindow ≤ 255) ∧ (12 ≤ f.breakThreshold ∧ f.breakThreshold ≤ 255) ∧
  (1 ≤ f.deadThreshold ∧ f.deadThreshold ≤ 255) ∧ (1 ≤ f.liveQual ∧ f.liveQual ≤ 255) ∧
  (1 ≤ f.pulseDuration ∧ f.pulseDuration ≤ 2550) ∧ (1 ≤ f.sensePeriod ∧ f.sensePeriod ≤ 255) ∧
  (2 ≤ f.senseAgree ∧ f.senseAgree ≤ 15) ∧ (1 ≤ f.txBreak ∧ f.txBreak ≤ 255) ∧
  (f.flow = .cts → f.auxB = .cts)

/-- Every active and staged profile is in range. -/
abbrev State.profilesInRange (s : State) : Prop :=
  ∀ p : PortId, (s.port p).active.inRange ∧ ∀ f ∈ (s.port p).staged, f.inRange

/-- What the state of a port says of its other fields (R4, R6, R9, R12, R16, R22, R24, R32). -/
abbrev Port.consistent (q : Port) : Prop :=
  (q.state = .disabled ↔ q.active.enable = false) ∧
  (q.detector.window ≠ .closed ↔ q.state = .detecting) ∧
  (q.detector.timer.isSome ↔ q.state = .detecting) ∧
  (q.qualTimer.isSome → q.state = .dead) ∧
  (q.breakSeen → q.state = .live) ∧
  (q.pulse.isSome → q.active.auxA ≠ .none ∧ q.state ≠ .disabled) ∧
  (q.sense.timer.isSome ↔ q.active.auxB = .sense ∧ q.state ≠ .disabled) ∧
  (q.flight.isSome → q.state ≠ .disabled)

abbrev State.linesConsistent (s : State) : Prop := ∀ p : PortId, (s.port p).consistent

/-! ### The capture store and delivery -/

/-- The blocks given to the ports fit the store (R41), and every enabled port has a block (R42). -/
abbrev State.allocationSound (s : State) : Prop :=
  (allPorts.map fun p => (s.port p).alloc).sum ≤ Config.storeBlocks ∧
  ∀ p : PortId, (s.port p).alloc ≤ 64 ∧
    ((s.port p).active.enable → 1 ≤ (s.port p).alloc) ∧
    ((s.port p).state ≠ .disabled → 1 ≤ (s.port p).alloc)

/-- How far a position lies from the oldest position of the ring. -/
def Ring.offset (r : Ring) (c : Pos) : Nat := (c - r.oldest).toNat

/-- A ring of the given capacity: no more bytes than it holds (R44); at most 16 marks, numbered one
after another up to the next mark number, in the order of their positions, none of which precedes
the oldest (R47, R50). -/
abbrev Ring.sound (cap : Nat) (r : Ring) : Prop :=
  r.fill ≤ cap ∧
  r.marks.length ≤ Config.maxMarks ∧
  r.marks.map (·.number) =
    (List.range r.marks.length).map
      (fun i => r.nextMark - BitVec.ofNat 16 (r.marks.length - i)) ∧
  (r.marks.map fun m => r.offset m.position).Pairwise (· ≤ ·) ∧
  ∀ m ∈ r.marks, r.offset m.position ≤ r.fill

/-- Every ring is sound, and no capacity exceeds 64 blocks. -/
abbrev State.storeSound (s : State) : Prop :=
  ∀ p : PortId, (s.port p).alloc ≤ 64 ∧ (s.port p).ring.sound (s.port p).capacity

/-- An attached session's cursor lies in its ring, its next-mark number names a listed mark or the
next one, and no mark that it still has to be sent stands before its cursor (R46, R51, R52). -/
abbrev Attachment.inRing (a : Attachment) (r : Ring) : Prop :=
  (r.head - a.cursor).toNat ≤ r.fill ∧
  (r.nextMark - a.nextMark).toNat ≤ r.marks.length ∧
  ∀ m ∈ r.marks, markAtOrBefore a.nextMark m.number → r.offset a.cursor ≤ r.offset m.position

/-- Every ring is sound, and every attached session stands in its ring. -/
abbrev State.deliverySound (s : State) : Prop :=
  s.storeSound ∧
  ∀ k : SlotId, ∀ a ∈ (s.session k).attachment, a.inRing (s.port a.port).ring

/-- The content test of R90 holds of every attached session: its gather timer is STOPPED exactly
where it has no undelivered content. -/
abbrev State.settled (s : State) : Prop :=
  ∀ k : SlotId, ∀ a ∈ (s.session k).attachment,
    (a.gather = .stopped ↔ a.content (s.port a.port).ring = false)

/-! ### Sessions -/

/-- The session is attached to the port. -/
abbrev State.onPort (s : State) (k : SlotId) (p : PortId) : Prop := s.attachedTo k p = true

/-- The writer and the wait list of a port (R72 to R74): each is attached to the port, the list holds
at most four sessions, none twice and not the writer, by falling rank, and only where there is a
writer. -/
abbrev State.waitSound (s : State) (p : PortId) : Prop :=
  (∀ k ∈ (s.port p).writer, s.onPort k p) ∧
  (∀ k ∈ (s.port p).waitList, s.onPort k p ∧ (s.port p).writer ≠ some k) ∧
  (s.port p).waitList.Nodup ∧
  (s.port p).waitList.length ≤ Config.waitPlaces ∧
  ((s.port p).waitList.map s.rankOf).Pairwise (· ≥ ·) ∧
  ((s.port p).writer = none → (s.port p).waitList = [])

abbrev State.writersSound (s : State) : Prop := ∀ p : PortId, s.waitSound p

/-- Every keystroke queue holds at most 256 items (R20), and none where the port has no writer. -/
abbrev State.queuesSound (s : State) : Prop :=
  ∀ p : PortId, (s.port p).queue.length ≤ Config.queueItems ∧
    ((s.port p).writer = none → (s.port p).queue = [])

/-- Every session that is not FREE is of a valid entry and has its rank; no entry has more sessions
than its limit; while the commissioning flag is set, entry 0 is the wildcard (R59, R61, R64). -/
abbrev State.sessionsCounted (s : State) : Prop :=
  (∀ k : SlotId, ∀ l ∈ (s.session k).live,
    (s.station l.station).valid ∧ l.rank = (s.station l.station).rank) ∧
  (∀ e : StationId, s.sessionCount e ≤ (s.station e).limit) ∧
  (s.commissioning → s.station 0 = Station.wildcard)

/-! ### Watch patterns, key-in entries, notices, uplink -/

/-- A valid pattern has 1 to 24 bytes, is armed only on ports of its set, and keeps no more bytes in
a window than it has; an invalid entry is armed nowhere (R106, R111, R114). -/
def PatternEntry.sound (e : PatternEntry) : Bool :=
  match e.pattern with
  | none => allPorts.all fun p => e.windows[p] == none
  | some t =>
    1 ≤ t.bytes.length && t.bytes.length ≤ 24 &&
    allPorts.all fun p =>
      match e.windows[p] with
      | none => true
      | some w => inSet t.ports p && w.length ≤ t.bytes.length

abbrev State.patternsSound (s : State) : Prop := ∀ i : PatternId, (s.patternEntry i).sound

/-- At most one entry is RUNNING on a port (R147). -/
abbrev State.oneRunning (s : State) : Prop :=
  ∀ e e' : KeyinId, (s.keyin e).isRunning → (s.keyin e').isRunning →
    (s.keyin e).port = (s.keyin e').port → e = e'

/-- A PENDING or RUNNING entry holds something to send, and its port is not in DISABLED (R138,
R146, R156); the item it has in flight is the item of its port's transmitter (R149). -/
abbrev State.keyinSound (s : State) : Prop :=
  s.oneRunning ∧
  ∀ e : KeyinId,
    ((s.keyin e).engaged →
      (s.keyin e).hasContent ∧ (s.port (s.keyin e).port).state ≠ .disabled) ∧
    ∀ r ∈ (s.keyin e).run?, r.inFlight →
      ((s.port (s.keyin e).port).flight.map (·.fromKeyin)) = some true

/-- The notice queue holds at most 32 records, no two of them of one cause, port and argument, each
with a count of 1 to 255 (R162, R163). -/
abbrev NoticeUnit.sound (u : NoticeUnit) : Prop :=
  u.queue.length ≤ Config.noticeRecords ∧
  u.queue.Pairwise (fun n m => ¬ (n.cause = m.cause ∧ n.port = m.port ∧ n.arg = m.arg)) ∧
  ∀ n ∈ u.queue, 1 ≤ n.count ∧ n.count ≤ 255

/-- Neither uplink queue holds more than eight frames (R172). -/
abbrev State.queuesBounded (s : State) : Prop :=
  s.uplink.rxQueue.length ≤ Config.uplinkFrames ∧ s.uplink.replies.length ≤ Config.uplinkFrames

/-- Every setting holds a value its write admits (R178). -/
abbrev State.settingsLegal (s : State) : Prop :=
  individual s.uplink.address ∧ 0x0600 ≤ s.uplink.frameType.toNat ∧
  s.notice.mask.toNat < 2 ^ 11 ∧ s.notice.holdoff ≤ 255 ∧ s.notice.destination ≠ some 0 ∧
  (10 ≤ s.sessionLimit ∧ s.sessionLimit ≤ 3600) ∧ s.writerLimit ≤ 3600

/-! ### Served frames -/

/-- The engine takes the frame f next, and it is the request r (R172, R173). -/
abbrev State.takes (s : State) (f : RxFrame) (r : Request) : Prop :=
  s.oldestFrame = some f ∧ s.classify f = .request r

/-- The engine takes the frame f next, and it is the MANAGE operation m of a station with the MANAGE
right, while no save is in progress (R177). -/
abbrev State.takesManage (s : State) (f : RxFrame) (op : Byte) (m : Manage) : Prop :=
  s.takes f (.manage op m) ∧
  (s.stationOf (s.ctx f (some op))).rights.manage ∧ s.saving = none

/-- The REPLY that answers the frame (R174). -/
def RxFrame.answer (f : RxFrame) (op : Option Byte) (result : Result) (values : List Byte) : Reply where
  dest := f.source
  slot := f.slot
  generation := f.generation
  tag := f.tag
  kind := f.kind
  result := result
  op := op
  values := values

/-- A session that a valid frame has touched: its idle timer restarts, and its peer is the source of
the frame (R63, R80, R85). -/
def Session.touchedBy (x : Session) (idleLimit : Nat) (source : Mac) : Session :=
  { x with live := x.live.map fun l => { l with idle := idleLimit * 1000, peer := source } }

/-- The session table after the frame f is taken: the session of its handle is touched, where its
kind has one (R63). -/
def State.touched (s : State) (f : RxFrame) : Vector Session 64 :=
  if f.needsNoHandle then s.sessions
  else
    s.sessions.set (slotOf f.slot)
      ((s.session (slotOf f.slot)).touchedBy s.sessionLimit f.source)

/-- The state after the frame f is taken, counted in RX_OK and answered with the replies rs, where
its request does nothing else (R172 to R174). -/
def State.afterFrame (s : State) (f : RxFrame) (rs : List Reply) : State :=
  { s with
    sessions := s.touched f
    uplink := { s.uplink with
      rxQueue := s.uplink.rxQueue.tail
      counters := s.uplink.counters.countOk
      replies := s.uplink.replies ++ rs } }

/-- The session of a frame's handle. -/
def RxFrame.session (f : RxFrame) : SlotId := slotOf f.slot

/-- The session k has the attachment a while attached, and it is as the frame f left it. -/
def State.withAttachment (s : State) (k : SlotId) (a : Option Attachment) : State :=
  s.modSession k fun x => { x with live := x.live.map fun l => { l with attachment := a } }

/-- The Station Table entry that the frame f resolves to (R58). -/
abbrev State.stationFor (s : State) (f : RxFrame) : Station := s.stationOf (s.ctx f none)

/-- The state with the port p replaced. -/
def State.withPort (s : State) (p : PortId) (q : Port) : State :=
  { s with ports := s.ports.set p q }

/-- No comparator is enabled. -/
abbrev State.comparatorsOff (s : State) : Prop := ∀ i : ComparatorId, (s.comparator i).enable = false

/-- No key-in entry is ARMED, PENDING or RUNNING. -/
abbrev State.keyinsIdle (s : State) : Prop := ∀ e : KeyinId, (s.keyin e).state = .idle

/-- The command that serves a MANAGE operation; an operation that no row of the table names is served
by UNKNOWN_KIND. -/
def Manage.row : Manage → Instr
  | .stationWrite _ => .stationWrite
  | .stationRead _ => .stationRead
  | .patternWrite _ => .patternWrite
  | .patternRead _ => .patternRead
  | .comparatorWrite _ => .comparatorWrite
  | .comparatorRead _ => .comparatorRead
  | .keyinWrite _ => .keyinWrite
  | .keyinRead _ => .keyinRead
  | .profileWriteActive _ _ => .profileWriteActive
  | .profileWriteStaged _ _ => .profileWriteStaged
  | .profileWriteOther => .unknownKind
  | .portStatus _ => .portStatus
  | .allocate _ => .allocate
  | .allocationRead => .allocationRead
  | .counterReset _ _ => .counterReset
  | .portRestart _ => .portRestart
  | .stationAddressWrite _ => .stationAddressWrite
  | .frameTypeWrite _ => .frameTypeWrite
  | .noticeDestinationWrite _ => .noticeDestinationWrite
  | .noticeMaskWrite _ => .noticeMaskWrite
  | .holdoffWrite _ => .holdoffWrite
  | .sessionIdleLimitWrite _ => .sessionIdleLimitWrite
  | .writerIdleLimitWrite _ => .writerIdleLimitWrite
  | .settingWriteOther => .unknownKind
  | .settingsRead => .settingsRead
  | .noticeRead => .noticeRead
  | .save => .save
  | .warmRestart => .warmRestart
  | .otherOperation => .unknownKind

/-- The reads of R177; an operation code outside its table is refused before it is asked whether it is
a write. -/
def Manage.isRead : Manage → Bool
  | .stationRead _ => true
  | .patternRead _ => true
  | .comparatorRead _ => true
  | .keyinRead _ => true
  | .portStatus _ => true
  | .allocationRead => true
  | .settingsRead => true
  | .noticeRead => true
  | .otherOperation => true
  | _ => false

/-- The pending status flags of a session, where it is attached (R79). -/
def State.flagsOf (s : State) (k : SlotId) : Option StatusFlags :=
  (s.session k).attachment.map (·.flags)

/-- The first record of the notice queue, by its cause, port, argument, first position and count. -/
def State.firstNotice (s : State) : Option (Cause × Option PortId × Word16 × Pos × Nat) :=
  s.notice.queue.head?.map fun n => (n.cause, n.port, n.arg, n.first, n.count)

/-- The WRITER_CHANGE of a port is the first record of t's notice queue, where s admits it to an empty
queue (R78, R161). -/
abbrev State.writerChangeNoticed (s t : State) (p : PortId) (new : Option SlotId) : Prop :=
  s.notice.mask.getLsbD 8 → s.notice.queue = [] →
    t.firstNotice = some (.writerChange, some p, writerArgument new, (s.port p).ring.head, 1)

/-- The writer of the port p has been released (R74, R77 to R79): the head of the wait list, or none, is
the writer, the queue is flushed, the WRITER mark is written and the cause raised, every other port
stays, the new writer's record is set, and every session that moved up is flagged, and no other. -/
abbrev State.released (s t : State) (p : PortId) : Prop :=
  let q := s.port p
  let new := q.waitList.head?
  t.port p = { q with
    queue := []
    writer := new
    waitList := q.waitList.tail
    ring := q.ring.addMark .writer (writerArgument new) } ∧
  (∀ p' : PortId, p' ≠ p → t.port p' = s.port p') ∧
  (∀ h ∈ new,
    (t.session h).attachment.map (fun b => (b.ip, b.lastInput, b.flags, b.writerIdle)) =
      (s.session h).attachment.map fun a =>
        (0, .ok, { a.flags with roleChange := true }, s.freshWriterIdle)) ∧
  (∀ k ∈ q.waitList.tail, t.flagsOf k = (s.flagsOf k).map fun f => { f with waitPlace := true }) ∧
  (∀ k : SlotId, k ∉ q.waitList → q.writer ≠ some k → t.flagsOf k = s.flagsOf k) ∧
  s.writerChangeNoticed t p new

/-- The session k has left the wait list of the port p, of which it was no writer (R65, R71, R74): every
other port and field stays, the sessions below it are flagged WAIT_PLACE, and no other is. -/
abbrev State.leftWaiting (s t : State) (p : PortId) (k : SlotId) : Prop :=
  let q := s.port p
  let below := q.waitList.drop (q.waitList.idxOf k + 1)
  t.ports = s.ports.set p { q with waitList := q.waitList.filter (· != k) } ∧
  (∀ j ∈ below, t.flagsOf j = (s.flagsOf j).map fun f => { f with waitPlace := true }) ∧
  ∀ j : SlotId, j ≠ k → j ∉ below → t.flagsOf j = s.flagsOf j

/-! ### Starts and targets -/

/-- An ATTACH that the first check of R67 passes. With role WATCH the options are not looked at. -/
abbrev attachAllowed (r : AttachRequest) : Prop :=
  r.port ≤ 31 ∧ r.role ≤ 1 ∧ r.start ≤ 2 ∧ (r.role = 1 → r.preempt ≤ 1 ∧ r.wait ≤ 1)

/-- The cursor that a start of a kind and a position gives on the ring, and OK or CLAMPED (R68): OLDEST,
HEAD, or a given position, with the nearer end where it lies outside. -/
def Ring.startAt (r : Ring) (kind : Nat) (x : Pos) : Pos × Result :=
  if kind = 0 then (r.oldest, .ok)
  else if kind = 1 then (r.head, .ok)
  else if atOrBefore r.oldest x && atOrBefore x r.head then (x, .ok)
  else if precedes r.head x then (r.head, .clamped)
  else (r.oldest, .clamped)

/-! ### Runs and matches -/

/-- The entry is RUNNING with a run that begins at the position with the given repeats (R148). -/
abbrev State.begun (s : State) (e : KeyinId) (start : Pos) (repeats : Nat) : Prop :=
  ((s.keyin e).run?.map fun r => (r.start, r.remaining, r.cycle, r.stop)) =
    some (start, if repeats = 0 then none else some repeats, 1, none)

/-- Every entry but those listed is IDLE. -/
abbrev State.othersIdle (s : State) (es : List KeyinId) : Prop :=
  ∀ e : KeyinId, e ∉ es → (s.keyin e).state = .idle

/-- ARMED or IDLE, as the rearm flag says (R157). -/
def KeyinEntry.restState (w : KeyinEntry) : KeyinState := if w.rearm then .armed else .idle

/-- An idle transmitter's choice where no entry is RUNNING: the head of the queue, where it may start
(R17). -/
def Port.freed (q : Port) : Port := if q.flight = none ∧ q.maySend then q.startQueued else q

/-- A port in LIVE after a byte stored there has completed one match of the pattern x, number i, with
no comparator enabled and nothing done yet by an action or a report (R45, R116, R125). -/
def Port.matchedBy (q : Port) (b : Byte) (parityWrong : Bool) (i : PatternId) (x : Pattern) : Port :=
  let stored := q.ring.store q.capacity b
  { q with
    rxMark := true
    breakSeen := false
    ring := if x.markFlag then stored.addMark .patternMatch (BitVec.ofNat 16 i.val) else stored
    counters := { q.counters with
      rxb := satInc q.counters.rxb
      una := 0
      per := if parityWrong then satInc q.counters.per else q.counters.per
      mat := satInc q.counters.mat } }

/-! ### Actions and comparators -/

/-- An action has been performed with the acting port p, which stood as m before it, and nothing but the
port p differed between s and that moment, where every key-in entry is IDLE in s (R5, R120, R121, R146).
A staged profile equals the active one as assumption 20 reads it (DEDUCED, unsafe). -/
abbrev State.acted (s t : State) (a : Action) (p : PortId) (m : Port) : Prop :=
  let stays := t.ports = s.ports.set p m
  (a = .none ∨ a = .stopKeyin → stays ∧ t.keyins = s.keyins) ∧
  (a = .hold → t.ports = s.ports.set p { m with hold := true } ∧ t.keyins = s.keyins) ∧
  (a = .release →
    t.ports = s.ports.set p (Port.freed { m with hold := false }) ∧ t.keyins = s.keyins) ∧
  (a = .pulse →
    (m.state = .disabled ∨ m.active.auxA = .none ∨ m.pulse ≠ none → stays) ∧
    (m.state ≠ .disabled → m.active.auxA ≠ .none → m.pulse = none → t.ports = s.ports.set p { m with
      pulse := some (m.active.pulseDuration * 10)
      ring := m.ring.addMark .pulseStart (BitVec.ofNat 16 m.active.pulseDuration) })) ∧
  (a = .stage →
    (m.staged = none → stays) ∧
    ∀ f : Profile, m.staged = some f →
      (f.enable = true → m.alloc = 0 → stays) ∧
      (f.enable = false ∨ m.alloc ≠ 0 →
        (f = m.active ∨ (m.state = .disabled ∧ f.enable = false) →
          t.ports = s.ports.set p { m with staged := none, active := f }) ∧
        (f ≠ m.active → (m.state ≠ .disabled ∨ f.enable = true) →
          ((t.port p).active = f ∧ (t.port p).staged = none ∧
            (∀ j : PatternId, ∀ w ∈ (t.patternEntry j).windows[p], w = [])) ∧
          (f.enable = false → (t.port p).state = .disabled) ∧
          (f.enable = true → (t.port p).state =
            if m.flight ≠ none then .switching else
              match f.rateMode with
              | .auto => .detecting
              | .fixed => .live) ∧
          (m.pulse = none → (f.enable = false ∨ m.flight ≠ none ∨ f.rateMode = .auto) →
            (t.port p).ring = m.ring.addMark .switch 1)))) ∧
  ∀ e : KeyinId, a = .keyin e →
    let w := s.keyin e
    let at' := if w.port = p then m else s.port w.port
    (w.hasContent = false ∨ at'.state = .disabled → stays ∧ t.keyins = s.keyins) ∧
    (w.hasContent = true → at'.state = .dead →
      stays ∧ t.keyins = s.keyins.set e { w with state := .pending }) ∧
    (w.hasContent = true → at'.state ≠ .disabled → at'.state ≠ .dead →
      t.begun e at'.ring.head w.repeats)

/-- The comparator i, with the fields x, has fired, where its port stood as m before (R134): the cause is
raised, the action performed, and the firing reported to the key-in unit. -/
abbrev State.fired (s t : State) (i : ComparatorId) (x : Comparator) (m : Port) : Prop :=
  let p := x.port
  (s.notice.mask.getLsbD 4 → s.notice.queue = [] →
    t.firstNotice = some (.compare, some p, BitVec.ofNat 16 i.val, m.ring.head, 1)) ∧
  (s.keyinsIdle → s.acted t x.action p m) ∧
  ∀ e : KeyinId, s.othersIdle [e] →
    let w := s.keyin e
    let at' := if w.port = p then m else s.port w.port
    (w.state = .armed → w.trigger = .compare i → w.hasContent → x.action = .none →
      (at'.state = .disabled → t.ports = s.ports.set p m ∧ t.keyins = s.keyins) ∧
      (at'.state = .dead → t.ports = s.ports.set p m ∧
        t.keyins = s.keyins.set e { w with state := .pending }) ∧
      (at'.state ≠ .disabled → at'.state ≠ .dead → t.begun e at'.ring.head w.repeats ∧
        (t.port w.port).ring = at'.ring.addMark .keyinStart (BitVec.ofNat 16 e.val))) ∧
    ∀ r : Run, w.state = .running r → r.stop = none → w.port = p → x.action = .stopKeyin →
      (r.inFlight = true → t.ports = s.ports.set p m ∧ t.keyins = s.keyins.set e
        { w with state := .running { r with stop := some .stoppedByAction } }) ∧
      (r.inFlight = false → w.trigger ≠ .compare i →
        (t.keyin e).lastOutcome = some .stoppedByAction ∧ (t.keyin e).state = w.restState ∧
        (t.port p).ring = m.ring.addMark .keyinEnd (BitVec.ofNat 16 (e.val * 256 + 4)))

/-- The comparator i is enabled, and no other is. -/
abbrev State.onlyEnabled (s : State) (i : ComparatorId) : Prop :=
  (s.comparator i).enable = true ∧ ∀ j : ComparatorId, j ≠ i → (s.comparator j).enable = false

/-- The only enabled comparator i has been evaluated at a counter event that left its port as m, and
nothing else happened (R130, R133, R135): its last condition is the condition, and it fires where the
condition has become true. -/
abbrev State.evaluatedAt (s t : State) (i : ComparatorId) (m : Port) : Prop :=
  let x := s.comparator i
  let counter := m.counters.get x.counter
  let holds := match x.method with
    | .eq => decide (counter = x.value)
    | .ge => decide (x.value.toNat ≤ counter.toNat)
    | .lt => decide (counter.toNat < x.value.toNat)
  t.comparators = s.comparators.set i { x with last := holds } ∧
  (x.last = true ∨ holds = false →
    t.ports = s.ports.set x.port m ∧ t.keyins = s.keyins ∧ t.notice = s.notice) ∧
  (x.last = false → holds = true → s.fired t i x m)

/-! ### What a table write must satisfy -/

/-- An action record that R119 allows: one of seven kinds, KEYIN with an entry number, any other with 0. -/
abbrev isAction (a : RawPair) : Prop :=
  a.kind ≤ 6 ∧ (a.kind = 5 → a.arg ≤ 15) ∧ (a.kind ≠ 5 → a.arg = 0)

/-- A trigger record that R144 allows: one of seven kinds, MATCH with a pattern number, COMPARE and
AFTER with an entry number, any other with 0. -/
abbrev isTrigger (a : RawPair) : Prop :=
  a.kind ≤ 6 ∧ (a.kind = 1 → a.arg ≤ 63) ∧ (a.kind = 2 ∨ a.kind = 6 → a.arg ≤ 15) ∧
  (a.kind = 0 ∨ 3 ≤ a.kind ∧ a.kind ≤ 5 → a.arg = 0)

/-- A Station Table write that R59 does not refuse. -/
abbrev stationAllowed (s : State) (w : StationWrite) : Prop :=
  w.entry ≤ 15 ∧ w.valid ≤ 1 ∧ w.rights ≤ 7 ∧ w.rank ≤ 7 ∧ (1 ≤ w.limit ∧ w.limit ≤ 8) ∧
  (w.valid = 1 → w.address.getLsbD 40 = false ∧ w.address ≠ 0 ∧
    ∀ e : StationId, e.val ≠ w.entry → (s.station e).valid → ¬ (s.commissioning = true ∧ e = 0) →
      (s.station e).address ≠ w.address)

/-- A Pattern Table write that R107 does not refuse. -/
abbrev patternAllowed (w : PatternWrite) : Prop :=
  w.entry ≤ 63 ∧ w.valid ≤ 1 ∧
  (w.valid = 1 → w.wildFlag ≤ 1 ∧ w.caseFold ≤ 1 ∧ w.rearm ≤ 1 ∧ w.markFlag ≤ 1 ∧
    (1 ≤ w.bytes.length ∧ w.bytes.length ≤ 24) ∧ isAction w.action)

/-- A Comparator Table write that R131 does not refuse. -/
abbrev comparatorAllowed (w : ComparatorWrite) : Prop :=
  w.entry ≤ 15 ∧ w.enable ≤ 1 ∧ w.port ≤ 31 ∧ w.counter ≤ 7 ∧ w.method ≤ 2 ∧ isAction w.action

/-- The fields of a Key-in Table write of the entry e that R139 does not refuse with RANGE; a stop
pattern of 0xFF is absent. -/
abbrev keyinAllowed (e : KeyinId) (w : KeyinWrite) : Prop :=
  w.port ≤ 31 ∧ w.string.length ≤ 48 ∧ w.repeats ≤ 255 ∧ (w.repeats = 0 → w.stopPattern ≠ 0xFF) ∧
  (w.stopPattern ≤ 63 ∨ w.stopPattern = 0xFF) ∧ isTrigger w.trigger ∧ w.trigger ≠ ⟨6, e.val⟩ ∧
  w.autoArm ≤ 1 ∧ w.rearm ≤ 1 ∧ (w.preBreak ≠ 0 ∨ w.string ≠ [])

/-- The first part of R3 for a write of the active profile, or of the staged one, of a port of the given
allocation. -/
abbrev profileAllowed (active : Prop) (alloc : Nat) (r : RawProfile) : Prop :=
  (r.enable ≤ 1 ∧ r.rateMode ≤ 1 ∧ r.redetect ≤ 1 ∧ (r.dataBits = 7 ∨ r.dataBits = 8) ∧ r.parity ≤ 4 ∧
    (r.stopBits = 1 ∨ r.stopBits = 2) ∧ r.flow ≤ 1 ∧ r.auxA ≤ 2 ∧ r.auxB ≤ 2) ∧
  (300 ≤ r.fixedRate ∧ r.fixedRate ≤ 1152000) ∧
  (1 ≤ r.rateList.length ∧ r.rateList.length ≤ 8 ∧ r.rateList.Nodup ∧
    ∀ x ∈ r.rateList, 300 ≤ x ∧ x ≤ 1152000) ∧
  (1 ≤ r.tolerance ∧ r.tolerance ≤ 8) ∧ (8 ≤ r.runsNeeded ∧ r.runsNeeded ≤ 64) ∧
  (2 ≤ r.senseAgree ∧ r.senseAgree ≤ 15) ∧
  (r.flow = 1 → r.auxB = 2) ∧ ¬ (active ∧ r.enable = 1 ∧ alloc = 0)

/-- The second part of R3: each timing field at the nearer end of its range, where it lies outside. -/
def profileClamped (r : RawProfile) : RawProfile :=
  { r with
    detectWindow := max 1 (min 255 r.detectWindow)
    breakThreshold := max 12 (min 255 r.breakThreshold)
    deadThreshold := max 1 (min 255 r.deadThreshold)
    liveQual := max 1 (min 255 r.liveQual)
    pulseDuration := max 1 (min 2550 r.pulseDuration)
    sensePeriod := max 1 (min 255 r.sensePeriod)
    txBreak := max 1 (min 255 r.txBreak) }

/-! ### Which commands can change what -/

/-- The command may change the bytes that the ring of the port holds: a byte stored there, ALLOCATE,
and the two restarts (R43, R45, R54, R55). -/
def rewritesRing (c : Instr) (p : PortId) : Bool :=
  match c with
  | .byteStored q _ _ _ => q == p
  | .allocate => true
  | .warmRestart => true
  | .coldReset _ => true
  | _ => false

/-- The counters of the port on which the command can act (R125, R128, R129). -/
def countersTouched (c : Instr) (p : PortId) : List CounterId :=
  match c with
  | .byteStored q _ _ _ => if q = p then [.rxb, .una, .per, .mat] else []
  | .byteSent q _ => if q = p then [.txb, .una] else []
  | .framingError q => if q = p then [.fer] else []
  | .breakRecorded q => if q = p then [.brk] else []
  | .deadThreshold q => if q = p then [.brk, .deads] else []
  | .counterReset => [.rxb, .txb, .fer, .per, .brk, .una, .mat, .deads]
  | .warmRestart => [.rxb, .txb, .fer, .per, .brk, .una, .mat, .deads]
  | .coldReset _ => [.rxb, .txb, .fer, .per, .brk, .una, .mat, .deads]
  | _ => []

/-- The port of an event of a line: of its receiver, its transmitter or its auxiliary pins. -/
def lineEventPort : Instr → Option PortId
  | .byteStored p _ _ _ => some p
  | .framingError p => some p
  | .breakRecorded p => some p
  | .deadThreshold p => some p
  | .liveQualification p => some p
  | .detectorRun p _ _ => some p
  | .detectionWindowExpiry p => some p
  | .switchingEnd p => some p
  | .transmitterChoice p _ => some p
  | .byteSent p _ => some p
  | .breakTokenEnd p => some p
  | .ctsAssert p => some p
  | .pulseTimerExpiry p => some p
  | .senseSample p _ => some p
  | .spaceRunEnd p => some p
  | _ => none

/-- No pattern has the KEYIN action. -/
abbrev State.patternsStartNothing (s : State) : Prop :=
  ∀ (i : PatternId) (e : KeyinId), ((s.patternEntry i).pattern.map (·.action)) ≠ some (.keyin e)

/-- The fields of an attachment that no movement in the ring changes: all but the cursor, the next-mark
number, the lost count, the mark-loss flag and the gather timer (R46, R51, R90). -/
def Attachment.unmoved (a : Attachment) : Attachment :=
  { a with cursor := 0, nextMark := 0, lost := 0, markLoss := false, gather := .stopped }

/-- The command is COLD_RESET. -/
def isColdReset : Instr → Bool
  | .coldReset _ => true
  | _ => false

end Sys2Proof.Machine
end

