-- ==== Sys2Proof/WellFormed.lean ====
section
/-! DEFINITION. Which operands a command can carry: every number of a write or of an image record fits
the width R182 gives its field. A command whose operands do not fit is no command of the part; the
meanings are total all the same. -/

namespace Sys2Proof

/-- The number fits k bytes. -/
def fits (k n : Nat) : Bool := n < 256 ^ k

def RawPair.fits (a : RawPair) : Bool := Sys2Proof.fits 1 a.kind && Sys2Proof.fits 1 a.arg

/-- A line profile whose fields fit (R2, R182). -/
def RawProfile.fits (r : RawProfile) : Bool :=
  [r.enable, r.rateMode, r.tolerance, r.runsNeeded, r.redetect, r.dataBits, r.parity, r.stopBits,
   r.flow, r.auxA, r.auxB, r.senseAgree, r.rateList.length].all (Sys2Proof.fits 1) &&
  [r.detectWindow, r.breakThreshold, r.deadThreshold, r.liveQual, r.pulseDuration, r.sensePeriod,
   r.txBreak].all (Sys2Proof.fits 2) &&
  Sys2Proof.fits 3 r.fixedRate && r.rateList.all (Sys2Proof.fits 3)

def StationWrite.fits (w : StationWrite) : Bool :=
  [w.entry, w.valid, w.rank, w.limit, w.rights].all (Sys2Proof.fits 1)

def PatternWrite.fits (w : PatternWrite) : Bool :=
  [w.entry, w.valid, w.wildFlag, w.caseFold, w.rearm, w.markFlag, w.bytes.length].all
    (Sys2Proof.fits 1) && w.action.fits

def ComparatorWrite.fits (w : ComparatorWrite) : Bool :=
  [w.entry, w.enable, w.port, w.counter, w.method].all (Sys2Proof.fits 1) && w.action.fits

def KeyinWrite.fits (w : KeyinWrite) : Bool :=
  [w.entry, w.port, w.repeats, w.stopPattern, w.autoArm, w.rearm, w.string.length].all
    (Sys2Proof.fits 1) && Sys2Proof.fits 2 w.preBreak && Sys2Proof.fits 2 w.interval && w.trigger.fits

def RawSettings.fits (r : RawSettings) : Bool :=
  [r.frameType, r.holdoff, r.sessionLimit, r.writerLimit].all (Sys2Proof.fits 2)

def ImageRecord.fits : ImageRecord → Bool
  | .settings r => r.fits
  | .allocation blocks => blocks.length == 32 && blocks.all (Sys2Proof.fits 1)
  | .station w => w.fits
  | .profile port r => Sys2Proof.fits 1 port && r.fits
  | .pattern w => w.fits
  | .keyin w => w.fits
  | .comparator w => w.fits

def ConfigMemory.fits (m : ConfigMemory) : Bool := m.records.all (·.fits)

/-- The operands of the command can be carried. -/
def Instr.wellFormed : Instr → Bool
  | .coldReset x => (x.fitted.map (·.fits)).getD true
  | .frameReceive _ _ => true
  | .malformedFrame => true
  | .unknownKind => true
  | .probe => true
  | .openSession => true
  | .closeSession => true
  | .attach => true
  | .detach => true
  | .seek => true
  | .credit => true
  | .input => true
  | .breakRequest => true
  | .release => true
  | .pulse => true
  | .keyinStart => true
  | .keyinStop => true
  | .arm => true
  | .rearm => true
  | .stationWrite => true
  | .stationRead => true
  | .patternWrite => true
  | .patternRead => true
  | .comparatorWrite => true
  | .comparatorRead => true
  | .keyinWrite => true
  | .keyinRead => true
  | .profileWriteActive => true
  | .profileWriteStaged => true
  | .portStatus => true
  | .allocate => true
  | .allocationRead => true
  | .counterReset => true
  | .portRestart => true
  | .stationAddressWrite => true
  | .frameTypeWrite => true
  | .noticeDestinationWrite => true
  | .noticeMaskWrite => true
  | .holdoffWrite => true
  | .sessionIdleLimitWrite => true
  | .writerIdleLimitWrite => true
  | .settingsRead => true
  | .noticeRead => true
  | .save => true
  | .saveDone => true
  | .saveFailed => true
  | .warmRestart => true
  | .replyTurn => true
  | .noticeTurn => true
  | .dataTurn => true
  | .gatherTimerExpiry _ => true
  | .sessionIdleExpiry _ => true
  | .writerIdleExpiry _ => true
  | .holdoffTimerExpiry => true
  | .byteStored _ _ _ _ => true
  | .framingError _ => true
  | .breakRecorded _ => true
  | .deadThreshold _ => true
  | .liveQualification _ => true
  | .detectorRun _ _ _ => true
  | .detectionWindowExpiry _ => true
  | .switchingEnd _ => true
  | .transmitterChoice _ _ => true
  | .byteSent _ _ => true
  | .breakTokenEnd _ => true
  | .intervalTimerExpiry _ => true
  | .ctsAssert _ => true
  | .pulseTimerExpiry _ => true
  | .senseSample _ _ => true
  | .spaceRunEnd _ => true

end Sys2Proof
end

