-- ==== Sys2Proof/Certificates/Slice0/Obligations.lean ====
section
/-! DEFINITION. The statements for the provers. -/

open Sys2Proof Sys2Proof.Machine

/-! ### The queue, and every command -/

/-- A step carries out the command at the front of the queue with the rest waiting. With no command
waiting one millisecond passes: that clause is the model's choice (assumption 4). -/
def Obligations.StepTakesTheFrontCommand : Prop :=
  (∀ (c : Instr) (s : State), step (s.pushFront c) = exec c s) ∧
  ∀ s : State, s.pending = [] → step s = .next (tick s)

/-- Every command answers a next state in every state, and leaves the commands that wait. -/
def Obligations.EveryCommandAnswersANextState : Prop :=
  ∀ (c : Instr) (s : State), ∃ t : State, exec c s = .next t ∧ t.pending = s.pending

/-! ### Reset -/

/-- The values the chapters state after cold reset, in `State.reset`. The reset values that the manual
does not state are the model's (assumption 32). -/
def Obligations.ResetLeavesTheStatedValues : Prop :=
  (∀ p : PortId,
    let q := State.reset.port p
    (q.state = .disabled ∧ q.rateFound = false ∧ q.divisor = 1920 ∧ q.active = .default ∧
      q.staged = none) ∧
    (q.queue = [] ∧ q.hold = false ∧ q.pulse = none ∧ q.flight = none ∧ q.sense = .reset ∧
      q.detector.window = .closed ∧ q.detector.count = 0 ∧ q.detector.minRun = none) ∧
    (q.counters = .zero ∧ q.alloc = 16 ∧ q.ring = ⟨0, [], [], 0⟩ ∧ q.writer = none ∧
      q.waitList = [])) ∧
  (∀ k : SlotId, State.reset.session k = ⟨0, none⟩) ∧
  (∀ e : StationId, (State.reset.station e).valid = false) ∧
  (∀ i : PatternId,
    (State.reset.patternEntry i).pattern = none ∧ (State.reset.patternEntry i).matchCount = 0) ∧
  (∀ i : ComparatorId, State.reset.comparator i = ⟨false, 0, .rxb, .eq, 0, .none, false⟩) ∧
  (∀ e : KeyinId, State.reset.keyin e = ⟨0, 0, [], 1, 1, none, .request, false, false, .idle, none⟩) ∧
  State.reset.notice = ⟨[], 0, none, 10, none, false, 0⟩ ∧
  (State.reset.uplink.receiveOpen = false ∧ State.reset.uplink.rxQueue = [] ∧
    State.reset.uplink.replies = [] ∧ State.reset.uplink.counters = .zero ∧
    State.reset.uplink.roundRobin = 63 ∧ State.reset.uplink.frameType = 0x88B6) ∧
  State.reset.sessionLimit = 120 ∧ State.reset.writerLimit = 600 ∧ State.reset.saving = none

/-- The state after reset meets every invariant stated below. The values of `State.reset` that the
manual does not state are the model's (assumptions 1 and 32). -/
def Obligations.ResetMeetsEveryInvariant : Prop :=
  State.reset.divisorsLegal ∧ State.reset.linesConsistent ∧ State.reset.allocationSound ∧
  State.reset.profilesInRange ∧ State.reset.settingsLegal ∧ State.reset.queuesBounded ∧
  State.reset.storeSound ∧ State.reset.deliverySound ∧ State.reset.settled ∧
  State.reset.writersSound ∧ State.reset.queuesSound ∧ State.reset.sessionsCounted ∧
  State.reset.patternsSound ∧ State.reset.keyinSound ∧ State.reset.notice.sound

/-! ### Invariants that every step keeps -/

/-- What a port's state says of its other fields, and the allocation sums of R41, stay true. -/
def Obligations.LinesAndAllocationsStaySound : Prop :=
  ∀ s t : State, s.linesConsistent → s.allocationSound → step s = .next t →
    t.linesConsistent ∧ t.allocationSound

/-- R28: every sample divisor stays in 16..65,535. Every profile and every setting stays in its range,
and the uplink queues stay bounded. That every field stays in its range is derived from the checks of
R3 and R178. -/
def Obligations.DivisorsAndStoredValuesStayInRange : Prop :=
  (∀ s t : State, s.divisorsLegal → step s = .next t → t.divisorsLegal) ∧
  ∀ s t : State, s.profilesInRange → s.settingsLegal → s.queuesBounded → step s = .next t →
    t.profilesInRange ∧ t.settingsLegal ∧ t.queuesBounded

/-- Every ring holds no more than its capacity and at most 16 marks, numbered one after another, in
order of position, none preceding the oldest. It is derived from R44, R47, R49 and R50. -/
def Obligations.RingsAndMarksStaySound : Prop :=
  ∀ s t : State, s.storeSound → step s = .next t → t.storeSound

/-- Every attached session's cursor lies in its ring, its next-mark number names a listed mark or the
next, and no mark still to be sent stands before the cursor. -/
def Obligations.CursorsStayInTheirRings : Prop :=
  ∀ s t : State, s.deliverySound → step s = .next t → t.deliverySound

/-- R90: a gather timer is STOPPED exactly where its session has no undelivered content. -/
def Obligations.GatherTimersFollowTheContent : Prop :=
  ∀ s t : State, s.settled → step s = .next t → t.settled

/-- R72: one writer a port and an ordered wait list of at most four, each attached there; and a queue
of at most 256 items that is empty where there is no writer. -/
def Obligations.WritersAndWaitListsStaySound : Prop :=
  ∀ s t : State, s.writersSound → s.queuesSound → step s = .next t →
    t.writersSound ∧ t.queuesSound

/-- R64: no station has more sessions than its limit, and every session is of a valid entry. -/
def Obligations.SessionsStayWithinTheirLimits : Prop :=
  ∀ s t : State, s.sessionsCounted → step s = .next t → t.sessionsCounted

/-- Match windows exist only for valid patterns, on ports of their sets, and never outgrow them. -/
def Obligations.MatchWindowsStaySound : Prop :=
  ∀ s t : State, s.patternsSound → step s = .next t → t.patternsSound

/-- R147: at most one entry is RUNNING on a port; and what a PENDING or RUNNING entry needs stays. -/
def Obligations.KeyinRunsStaySound : Prop :=
  ∀ s t : State, s.keyinSound → step s = .next t → t.keyinSound

/-- R163: the notice queue holds at most 32 records, no two of one cause, port and argument. -/
def Obligations.NoticeQueueStaysSound : Prop :=
  ∀ s t : State, s.notice.sound → step s = .next t → t.notice.sound

/-! ### What only some commands change -/

/-- Only the storing of a byte on the port, ALLOCATE and the restarts change what its ring holds or
its head: every other command leaves every position of the ring reading as it did. -/
def Obligations.RingBytesChangeOnlyByStoring : Prop :=
  ∀ (c : Instr) (s t : State) (p : PortId), rewritesRing c p = false → exec c s = .next t →
    (t.port p).ring.head = (s.port p).ring.head ∧ (t.port p).ring.fill = (s.port p).ring.fill ∧
    ∀ x : Pos, (t.port p).ring.read x = (s.port p).ring.read x

/-- A counter changes only at the events R125 gives it, at COUNTER_RESET and at the restarts: no
action of a pattern or of a comparator changes one (R134). -/
def Obligations.CountersChangeOnlyAtTheirEvents : Prop :=
  ∀ (c : Instr) (s t : State) (p : PortId) (k : CounterId), k ∉ countersTouched c p →
    exec c s = .next t → (t.port p).counters.get k = (s.port p).counters.get k

/-- Each table, setting and image changes only at its own writes and at cold reset. -/
def Obligations.TablesChangeOnlyAtTheirWrites : Prop :=
  ∀ (c : Instr) (s t : State), isColdReset c = false → exec c s = .next t →
    (c ≠ .stationWrite → t.stations = s.stations ∧ t.commissioning = s.commissioning) ∧
    (c ≠ .patternWrite →
      ∀ i : PatternId, (t.patternEntry i).pattern = (s.patternEntry i).pattern) ∧
    (c ≠ .comparatorWrite → ∀ i : ComparatorId,
      t.comparator i = { s.comparator i with last := (t.comparator i).last }) ∧
    (c ≠ .keyinWrite → ∀ e : KeyinId, t.keyin e =
      { s.keyin e with state := (t.keyin e).state, lastOutcome := (t.keyin e).lastOutcome }) ∧
    (c ≠ .allocate → ∀ p : PortId, (t.port p).alloc = (s.port p).alloc) ∧
    (c ≠ .profileWriteActive → (∀ p : PortId, (s.port p).staged = none) →
      ∀ p : PortId, (t.port p).active = (s.port p).active) ∧
    (c ≠ .stationAddressWrite → t.uplink.address = s.uplink.address) ∧
    (c ≠ .frameTypeWrite → t.uplink.frameType = s.uplink.frameType) ∧
    (c ≠ .noticeDestinationWrite → t.notice.destination = s.notice.destination) ∧
    (c ≠ .noticeMaskWrite → t.notice.mask = s.notice.mask) ∧
    (c ≠ .holdoffWrite → t.notice.holdoff = s.notice.holdoff) ∧
    (c ≠ .sessionIdleLimitWrite → t.sessionLimit = s.sessionLimit) ∧
    (c ≠ .writerIdleLimitWrite → t.writerLimit = s.writerLimit) ∧
    (c ≠ .saveDone → c ≠ .saveFailed →
      t.memory = s.memory ∧ (c ≠ .save → t.saving = s.saving)) ∧
    (c ≠ .openSession → ∀ k : SlotId, (t.session k).generation = (s.session k).generation) ∧
    t.uplink.receiveOpen = s.uplink.receiveOpen

/-- An event of a line acts on its own port alone where no comparator is enabled, no key-in entry is
ARMED, PENDING or RUNNING and no pattern starts one: every other port, every table, the uplink and
every session on another port stay, and a session on the port moves in its ring alone. Which commands
are events of a line is the model's list (`lineEventPort`), after the opening of 01_console_ports.md.
-/
def Obligations.LineEventsActOnTheirPortAlone : Prop :=
  ∀ (c : Instr) (s t : State) (p : PortId), lineEventPort c = some p → s.settled →
    s.comparatorsOff → s.keyinsIdle → s.patternsStartNothing → exec c s = .next t →
    (∀ p' : PortId, p' ≠ p → t.port p' = s.port p' ∧
      ∀ i : PatternId, (t.patternEntry i).windows[p'] = (s.patternEntry i).windows[p']) ∧
    ((t.port p).writer = (s.port p).writer ∧ (t.port p).waitList = (s.port p).waitList ∧
      (t.port p).alloc = (s.port p).alloc) ∧
    (t.keyins = s.keyins ∧ t.stations = s.stations ∧ t.uplink = s.uplink ∧ t.memory = s.memory ∧
      t.saving = s.saving) ∧
    ∀ k : SlotId,
      (s.attachedTo k p = false → t.session k = s.session k) ∧
      (t.session k).live.map (fun l => (l.station, l.rank, l.peer, l.idle)) =
        (s.session k).live.map (fun l => (l.station, l.rank, l.peer, l.idle)) ∧
      (t.session k).attachment.map Attachment.unmoved = (s.session k).attachment.map Attachment.unmoved

/-! ### Layouts -/

/-- Every write's fields, laid out as R182 states and read back, are the fields. The layouts of writes
are read as assumptions 22 and 23 say. -/
def Obligations.LayoutsReadBack : Prop :=
  (∀ (r : RawProfile) (rest : List Byte), r.fits →
    readProfile (encProfile r ++ rest) = some (r, rest)) ∧
  (∀ (w : StationWrite) (rest : List Byte), w.fits →
    readStation (bytesOf 1 w.entry ++ encStation w ++ rest) = some (w, rest)) ∧
  (∀ (w : PatternWrite) (rest : List Byte), w.fits →
    readPattern (bytesOf 1 w.entry ++ encPattern w ++ rest) = some (w, rest)) ∧
  (∀ (w : ComparatorWrite) (rest : List Byte), w.fits →
    readComparator (bytesOf 1 w.entry ++ encComparator w ++ rest) = some (w, rest)) ∧
  ∀ (w : KeyinWrite) (rest : List Byte), w.fits →
    readKeyin (bytesOf 1 w.entry ++ encKeyin w ++ rest) = some (w, rest)

/-- An entry that a SAVE copied is the entry that start-up's check gives back: nothing of it is
refused, clamped or changed (R183, R185). What a record holds is the model's (assumptions 26 and 28).
-/
def Obligations.SavedEntriesLoadBack : Prop :=
  (∀ (f : Profile) (alloc : Nat), f.inRange → (f.enable → 1 ≤ alloc) →
    checkProfile true alloc f.raw = some (f, false)) ∧
  (∀ (s : State) (e : StationId) (w : Station),
    w.rank ≤ 7 → 1 ≤ w.limit → w.limit ≤ 8 →
    (w.valid → individual w.address ∧ s.addressTaken e w.address = false) →
    checkStation s (w.raw e.val) = some (e, w)) ∧
  (∀ (i : PatternId) (t : Pattern) (x : PatternEntry), x.pattern = some t →
    1 ≤ t.bytes.length → t.bytes.length ≤ 24 → checkPattern (x.raw i.val) = some (i, some t)) ∧
  (∀ (i : ComparatorId) (x : Comparator),
    checkComparator (x.raw i.val) = some (i, { x with last := false })) ∧
  ∀ (e : KeyinId) (w : KeyinEntry), w.string.length ≤ 48 → w.repeats ≤ 255 →
    (w.repeats = 0 → w.stopPattern ≠ none) → w.trigger ≠ .after e → w.hasContent →
    w.preBreak ≤ 255 → 1 ≤ w.interval → w.interval ≤ 255 →
    keyinFields? e (w.raw e.val) =
      some { w with state := if w.autoArm then .armed else .idle, lastOutcome := none }

/-! ### The uplink and the frame engine -/

/-- R171: the filter, test by test. The bad FCS or receive error is an operand of the row (assumption
25). -/
def Obligations.ReceiveFilter : Prop :=
  ∀ (s : State) (dest source : Mac) (type : Word16) (data fcs : List Byte) (bad : Bool),
    fcs.length = 4 →
    let bytes := encMac dest ++ encMac source ++ bytesOf 2 type.toNat ++ data ++ fcs
    let ours := (dest = s.uplink.address ∨ dest = BitVec.allOnes 48) ∧
      source.getLsbD 40 = false ∧ type = s.uplink.frameType
    let sized := 64 ≤ bytes.length ∧ bytes.length ≤ 1518
    (s.uplink.receiveOpen = false → exec (.frameReceive bytes bad) s = .next s) ∧
    (s.uplink.receiveOpen = true →
      (bad = true → exec (.frameReceive bytes bad) s = .next (s.countUplink (·.countBadFcs))) ∧
      (bad = false →
        (¬ sized → exec (.frameReceive bytes bad) s = .next (s.countUplink (·.countMalformed))) ∧
        (sized → ¬ ours →
          exec (.frameReceive bytes bad) s = .next (s.countUplink (·.countNotMine))) ∧
        (sized → ours → 8 ≤ s.uplink.rxQueue.length →
          exec (.frameReceive bytes bad) s = .next (s.countUplink (·.countFull))) ∧
        (sized → ours → s.uplink.rxQueue.length < 8 →
          exec (.frameReceive bytes bad) s = .next { s with uplink := { s.uplink with
            rxQueue := s.uplink.rxQueue ++
              [{ broadcast := dest == BitVec.allOnes 48, source := source, data := data }] } })))

/-- R173: the five checks of a taken frame that draws no service. That the row MALFORMED_FRAME serves
every drop is the model's choice (assumption 8). -/
def Obligations.TakenFrameIsChecked : Prop :=
  ∀ (s : State) (f : RxFrame), s.oldestFrame = some f →
    let taken := removeFrame s
    let good := f.byteAt 0 = 1 ∧ f.lengthAgrees
    let served := 1 ≤ f.kind.toNat ∧ f.kind.toNat ≤ 16
    (¬ good → exec .malformedFrame s = .next (taken.countUplink (·.countMalformed))) ∧
    (good → ¬ served → exec .unknownKind s = .next { taken with uplink := { taken.uplink with
      replies := s.uplink.replies ++ [f.answer none .unknownKind []] } }) ∧
    (good → served → f.broadcast → f.kind ≠ 1 →
      exec .malformedFrame s = .next (taken.countUplink (·.countNotMine))) ∧
    (good → served → (f.broadcast = false ∨ f.kind = 1) → parseRequest f.kind f.body = none →
      exec .malformedFrame s = .next (taken.countUplink (·.countMalformed))) ∧
    (good → served → f.broadcast = false → parseRequest f.kind f.body ≠ none →
      f.kind ≠ 1 → f.kind ≠ 2 → s.handleValid f = false →
      exec .malformedFrame s = .next (taken.countUplink (·.countStale)))

/-- R180: PROBE is answered with the values read after the frame is counted, and changes nothing else.
The layout of the values is R182's. -/
def Obligations.ProbeAnswers : Prop :=
  ∀ (s : State) (f : RxFrame), s.settled → s.takes f .probe →
    let u := s.uplink
    let counted := [satInc u.counters.rxOk, u.counters.rxFull, u.counters.rxBadFcs, u.counters.rxNotMine,
      u.counters.rxStale, u.counters.rxMalformed, u.counters.txFrames]
    exec .probe s = .next (s.afterFrame f [f.answer none .ok (
      bytesOf 6 u.address.toNat ++ bytesOf 2 u.frameType.toNat ++ [0x2C, 0x03, 0x20, 1] ++
      [if s.commissioning then 1 else 0, if s.saving = none then 0 else 1] ++
      counted.flatMap (fun n => bytesOf 4 n.toNat) ++
      allPorts.flatMap fun p =>
        let q := s.port p
        bytesOf 1 q.state.code ++ (match q.writer with
          | some k => bytesOf 1 k.val
          | none => [0xFF]) ++ [if q.hold then 1 else 0] ++ bytesOf 1 q.alloc)])

/-- R92, R167: the oldest REPLY goes first; a NOTICE frame that is due goes where no REPLY waits. R90,
R166: a RUNNING gather timer becomes EXPIRED, and any other stays; the holdoff timer becomes RUN OUT.
That a turn sends its frame whole, and that an expiry is taken with any time left, are the model's
choices (assumptions 24 and 6). -/
def Obligations.TurnsAndTheirTimers : Prop :=
  ((∀ (s : State) (r : Reply) (rest : List Reply), s.uplink.replies = r :: rest →
    exec .replyTurn s = .next { s with uplink := { s.uplink with
      replies := rest
      counters := s.uplink.counters.countSent
      sent := some ⟨r.dest, s.uplink.address, s.uplink.frameType, r.data⟩ } } ∧
    exec .noticeTurn s = .next s ∧ exec .dataTurn s = .next s) ∧
  ∀ (s : State) (m : Mac), s.uplink.replies = [] → s.notice.queue ≠ [] →
    s.notice.destination = some m → s.notice.timer = none →
    exec .replyTurn s = .next s ∧ exec .dataTurn s = .next s ∧
    exec .noticeTurn s = .next { s with
      notice := { s.notice with
        queue := s.notice.queue.drop 8
        sequence := s.notice.sequence + 1
        overflow := false
        timer := if s.notice.holdoff = 0 then none else some (s.notice.holdoff * 10) }
      uplink := { s.uplink with
        counters := s.uplink.counters.countSent
        sent := some ⟨m, s.uplink.address, s.uplink.frameType,
          NoticeFrame.data ⟨s.notice.sequence, s.notice.queue.take 8, s.notice.overflow,
            s.notice.queue.length - 8⟩⟩ } }) ∧
  (∀ (s : State) (k : SlotId) (a : Attachment), (s.session k).attachment = some a →
    (∀ n, a.gather = .running n → exec (.gatherTimerExpiry k) s =
      .next (s.withAttachment k (some { a with gather := .expired }))) ∧
    ((∀ n, a.gather ≠ .running n) → exec (.gatherTimerExpiry k) s = .next s)) ∧
  ∀ s : State, exec .holdoffTimerExpiry s = .next { s with notice := { s.notice with timer := none } }

/-- How many slots a slot stands after the round-robin place, counted from the place plus 1 (R93). -/
def roundDistance (place k : SlotId) : Nat := (k.val + 63 - place.val) % 64

/-- R93 to R96: the first ready session after the round-robin place is sent a frame of at most 1,024
bytes and 8 marks, ended at the ninth candidate mark where there is one. That the frame is sent whole
in the turn is the model's choice (assumption 24). -/
def Obligations.DataTurnServesTheNextReadySession : Prop :=
  ∀ (s : State) (k : SlotId) (l : Live) (a : Attachment), s.settled →
    s.uplink.replies = [] → s.noticeDue = false →
    (s.session k).live = some l → l.attachment = some a → s.ready k →
    (∀ j : SlotId, roundDistance s.uplink.roundRobin j < roundDistance s.uplink.roundRobin k →
      s.ready j = false) →
    let q := s.port a.port
    let provisional := a.cursor + BitVec.ofNat 32 (min (a.sendable q.ring) 1024)
    let marks := q.ring.marks.filter fun m =>
      markAtOrBefore a.nextMark m.number && atOrBefore m.position provisional
    let last := match marks[8]? with
      | some m => m.position
      | none => provisional
    let a' : Attachment := { a with
      cursor := last
      nextMark := match (marks.take 8).getLast? with
        | some m => m.number + 1
        | none => a.nextMark
      markLoss := false
      flags := ⟨false, false, false, false, false⟩ }
    let frame : DataFrame := {
      slot := k, generation := (s.session k).generation, start := a.cursor
      bytes := q.ring.bytesFrom a.cursor (last - a.cursor).toNat, marks := marks.take 8
      port := a.port, writer := q.writer == some k, waitPlace := s.waitPlace k
      lastInput := a.lastInput, flags := a.flags, portState := q.state, hold := q.hold
      markLoss := a.markLoss, ip := a.ip, lost := a.lost, head := q.ring.head, credit := a.credit }
    exec .dataTurn s = .next { s.withAttachment k (some { a' with
        gather := if a'.content q.ring then .running a.gatherTime else .stopped }) with
      uplink := { s.uplink with
        roundRobin := k
        counters := s.uplink.counters.countSent
        sent := some ⟨l.peer, s.uplink.address, s.uplink.frameType, frame.data⟩ } }

/-! ### Sessions and the writer -/

/-- R64: the three refusals of OPEN, and the slot it takes. -/
def Obligations.OpenServed : Prop :=
  ∀ (s : State) (f : RxFrame), s.settled → s.takes f .openSession →
    (s.resolve f.source = none →
      exec .openSession s = .next (s.afterFrame f [f.answer none .refusedAccess []])) ∧
    ∀ e : StationId, s.resolve f.source = some e →
      ((s.station e).limit ≤ s.sessionCount e →
        exec .openSession s = .next (s.afterFrame f [f.answer none .limit []])) ∧
      (s.sessionCount e < (s.station e).limit →
        ((∀ k : SlotId, (s.session k).live ≠ none) →
          exec .openSession s = .next (s.afterFrame f [f.answer none .noSlot []])) ∧
        ∀ k : SlotId, (s.session k).live = none →
          (∀ j : SlotId, j < k → (s.session j).live ≠ none) →
          let generation := (s.session k).generation + 1
          let values := bytesOf 1 (s.station e).rank ++ bytesOf 1 (s.station e).rights.code ++
            bytesOf 2 s.sessionLimit
          let opened : Session := {
            generation := generation
            live := some { station := e, rank := (s.station e).rank, peer := f.source,
                           idle := s.sessionLimit * 1000, attachment := none } }
          let reply : Reply := { f.answer none .ok values with
            slot := BitVec.ofNat 8 k.val, generation := generation }
          exec .openSession s = .next { s.afterFrame f [reply] with
            sessions := s.sessions.set k opened })

/-- R65, R66, R71, R74, R80: closing, detaching and idle expiry of a session that neither holds a keyboard
nor waits for one, and of one that waits: its wait list closes up, and the sessions below it are flagged.
An idle timer that has time left, as one that a valid frame has restarted, does not expire. -/
def Obligations.SessionsEndQuietly : Prop :=
  (∀ (s : State) (k : SlotId) (l : Live), s.settled → (s.session k).live = some l →
    (∀ a ∈ l.attachment, (s.port a.port).writer ≠ some k ∧ k ∉ (s.port a.port).waitList) →
    let freed := s.sessions.set k { generation := (s.session k).generation, live := none }
    (∀ f : RxFrame, f.session = k →
      (s.takes f .closeSession → exec .closeSession s =
        .next { s.afterFrame f [f.answer none .ok []] with sessions := freed }) ∧
      (s.takes f .detach → exec .detach s =
        .next ((s.afterFrame f [f.answer none .ok []]).withAttachment k none))) ∧
    (l.idle = 0 → exec (.sessionIdleExpiry k) s = .next { s with
      sessions := freed
      notice := (raise .sessionTimeout none (BitVec.ofNat 16 k.val) s).notice })) ∧
  (∀ (s : State) (k : SlotId) (p : PortId), s.writersSound → k ∈ (s.port p).waitList →
    let closed : Session := ⟨(s.session k).generation, none⟩
    (∀ f : RxFrame, f.session = k →
      (s.takes f .closeSession → ∃ t, exec .closeSession s = .next t ∧ s.leftWaiting t p k ∧
        t.session k = closed ∧ t.notice = s.notice ∧
        t.uplink.replies = s.uplink.replies ++ [f.answer none .ok []]) ∧
      (s.takes f .detach → ∃ t, exec .detach s = .next t ∧ s.leftWaiting t p k ∧
        (t.session k).attachment = none ∧ (t.session k).live ≠ none ∧ t.notice = s.notice ∧
        t.uplink.replies = s.uplink.replies ++ [f.answer none .ok []])) ∧
    ((s.session k).live.map (·.idle) = some 0 →
      ∃ t, exec (.sessionIdleExpiry k) s = .next t ∧ s.leftWaiting t p k ∧ t.session k = closed ∧
        t.notice = (raise .sessionTimeout none (BitVec.ofNat 16 k.val) s).notice)) ∧
  ∀ (s : State) (k : SlotId), (∀ l ∈ (s.session k).live, l.idle ≠ 0) →
    exec (.sessionIdleExpiry k) s = .next s

/-- R74, R77 to R79: where the session that ends is the writer, or its writer idle timer expires, the
head of the wait list is promoted, or the port is left with no writer; WRITER_CHANGE is raised and the
sessions that move up are flagged. A writer idle timer that has time left does not expire (R81). -/
def Obligations.WriterReleasePromotes : Prop :=
  (∀ (s : State) (k : SlotId) (p : PortId), s.writersSound → (s.port p).writer = some k →
    (∀ f : RxFrame, f.session = k → s.takes f .closeSession →
      ∃ t, exec .closeSession s = .next t ∧ s.released t p ∧
        t.session k = ⟨(s.session k).generation, none⟩) ∧
    (∀ f : RxFrame, f.session = k → s.takes f .detach →
      ∃ t, exec .detach s = .next t ∧ s.released t p ∧ (t.session k).attachment = none ∧
        (t.session k).live ≠ none) ∧
    ((s.session k).live.map (·.idle) = some 0 →
      ∃ t, exec (.sessionIdleExpiry k) s = .next t ∧ s.released t p ∧
        t.session k = ⟨(s.session k).generation, none⟩) ∧
    ((s.session k).attachment.map (·.writerIdle) = some (some 0) →
      ∃ t, exec (.writerIdleExpiry k) s = .next t ∧ s.released t p ∧
        (t.session k).attachment.map (fun b => (b.flags, b.writerIdle)) =
          (s.session k).attachment.map fun a =>
            ({ a.flags with roleChange := true, idleDemoted := true }, none))) ∧
  ∀ (s : State) (k : SlotId),
    (s.isWriter k = false ∨ (s.session k).attachment.map (·.writerIdle) ≠ some (some 0)) →
    exec (.writerIdleExpiry k) s = .next s

/-- R67, R68, R70: the checks of ATTACH in their order, and an ATTACH with role WATCH. What its first
check refuses is read as assumption 23 says, its cursor as assumption 19 says, and a position sent with
OLDEST or HEAD is not looked at (assumption 36). -/
def Obligations.AttachChecksAndWatch : Prop :=
  ∀ (s : State) (f : RxFrame) (r : AttachRequest), s.settled → s.writersSound →
    s.takes f (.attach r) →
    (¬ attachAllowed r → exec .attach s = .next (s.afterFrame f [f.answer none .range []])) ∧
    ∀ p : PortId, p.val = r.port → attachAllowed r →
      let q := s.port p
      (inSet (s.stationFor f).ports p = false →
        exec .attach s = .next (s.afterFrame f [f.answer none .refusedAccess []])) ∧
      (inSet (s.stationFor f).ports p = true →
        (q.state = .disabled →
          exec .attach s = .next (s.afterFrame f [f.answer none .portDisabled []])) ∧
        (q.state ≠ .disabled →
          ((s.session f.session).attachment ≠ none →
            exec .attach s = .next (s.afterFrame f [f.answer none .inUse []])) ∧
          ((s.session f.session).attachment = none → r.role = 0 →
            let c := (q.ring.startAt r.start r.position).1
            let result := (q.ring.startAt r.start r.position).2
            let credit := c + BitVec.ofNat 32 r.credit
            let next := q.ring.search c
            let values := [0, 0xFF] ++ encPos c ++ encPos credit ++ bytesOf 2 next.toNat ++
              encPos q.ring.head ++ bytesOf 1 q.state.code
            let b : Attachment := {
              port := p, cursor := c, credit := credit, nextMark := next, lost := 0
              markLoss := false, gatherTime := if r.gather = 0 then 20 else r.gather
              gather := .stopped, ip := 0, lastInput := .ok
              flags := ⟨false, false, false, false, false⟩, writerIdle := none }
            exec .attach s = .next ((s.afterFrame f [f.answer none result values]).withAttachment
              f.session (some (b.gatherTest q.ring))))))

/-- R69, R70, R73, R76, R78, R79: the contention of an ATTACH with role WRITE, with the flags and the
cause it gives. What its first check refuses is read as assumption 23 says, its cursor as assumption 19,
and a position sent with OLDEST or HEAD is not looked at (assumption 36). -/
def Obligations.AttachContendsForTheKeyboard : Prop :=
  ∀ (s : State) (f : RxFrame) (r : AttachRequest) (p : PortId), s.writersSound →
    s.takes f (.attach r) → attachAllowed r → r.role = 1 → p.val = r.port →
    inSet (s.stationFor f).ports p → (s.port p).state ≠ .disabled →
    (s.session f.session).attachment = none →
    let k := f.session
    let q := s.port p
    let c := (q.ring.startAt r.start r.position).1
    let placed := (q.ring.startAt r.start r.position).2
    let taking := { q with
      queue := []
      writer := some k
      ring := q.ring.addMark .writer (BitVec.ofNat 16 k.val) }
    ∃ (t : State) (result : Result), exec .attach s = .next t ∧
      t.uplink.replies = s.uplink.replies ++ [f.answer none result (t.attachValues k)] ∧
      (∀ p' : PortId, p' ≠ p → t.port p' = s.port p') ∧
      ((t.session k).attachment.map fun b => (b.port, b.cursor, b.credit, b.lost, b.ip)) =
        some (p, c, c + BitVec.ofNat 32 r.credit, 0, 0) ∧
      let status := (t.session k).attachment.map fun b => (b.flags, b.writerIdle)
      let taken := result = placed ∧ t.port p = taking ∧ s.writerChangeNoticed t p (some k) ∧
        status = some (⟨true, false, false, false, false⟩, s.freshWriterIdle)
      let quiet := status = some (⟨false, false, false, false, false⟩, none) ∧ t.notice = s.notice
      let kept (j : SlotId) : Prop := t.flagsOf j = s.flagsOf j
      match q.writer with
      | none => taken ∧ ∀ j : SlotId, j ≠ k → kept j
      | some w =>
        if r.preempt = 1 ∧ s.rankOf w < s.rankOf k then
          taken ∧ (∀ j : SlotId, j ≠ k → j ≠ w → kept j) ∧
          ((t.session w).attachment.map fun b => (b.flags, b.writerIdle)) =
            (s.session w).attachment.map fun b =>
              ({ b.flags with roleChange := true, preempted := true }, none)
        else if r.wait = 1 ∧ q.waitList.length < 4 then
          let above := q.waitList.filter fun j => s.rankOf k ≤ s.rankOf j
          let below := q.waitList.filter fun j => s.rankOf j < s.rankOf k
          result = placed ∧ t.port p = { q with waitList := above ++ k :: below } ∧ quiet ∧
          (∀ j ∈ below, t.flagsOf j = (s.flagsOf j).map fun g => { g with waitPlace := true }) ∧
          ∀ j : SlotId, j ≠ k → j ∉ below → kept j
        else
          result = (if r.wait = 1 then .full else .busy) ∧ t.port p = q ∧ quiet ∧
          ∀ j : SlotId, j ≠ k → kept j

/-! ### Delivery requests and keyboard input -/

/-- R87: CREDIT sets the credit limit of an attached session and draws no reply. R88: the refusals of
SEEK, and the cursor and next-mark number it sets (R52, R68). A position that both follows the head and
precedes the oldest is clamped to the head: that order is read as assumption 19 says. A position sent with
OLDEST or HEAD is not looked at (assumption 36). -/
def Obligations.CreditAndSeekServed : Prop :=
  (∀ (s : State) (f : RxFrame) (x : Pos), s.settled → s.takes f (.credit x) →
    ((s.session f.session).attachment = none → exec .credit s = .next (s.afterFrame f [])) ∧
    ∀ a, (s.session f.session).attachment = some a →
      exec .credit s = .next ((s.afterFrame f []).withAttachment f.session
        (some ({ a with credit := x }.gatherTest (s.port a.port).ring)))) ∧
  ∀ (s : State) (f : RxFrame) (kind : Nat) (x : Pos), s.settled → s.takes f (.seek kind x) →
    ((2 < kind ∨ (s.session f.session).attachment = none) →
      exec .seek s = .next (s.afterFrame f [f.answer none .range []])) ∧
    ∀ a, (s.session f.session).attachment = some a →
      let r := (s.port a.port).ring
      let inside := atOrBefore r.oldest x && atOrBefore x r.head
      let finish (c : Pos) (result : Result) : State :=
        (s.afterFrame f [f.answer none result
          (encPos c ++ bytesOf 2 (r.search c).toNat ++ encPos a.credit ++ encPos r.oldest ++
            encPos r.head)]).withAttachment f.session
          (some ({ a with cursor := c, nextMark := r.search c }.gatherTest r))
      (kind = 0 → exec .seek s = .next (finish r.oldest .ok)) ∧
      (kind = 1 → exec .seek s = .next (finish r.head .ok)) ∧
      (kind = 2 → inside → exec .seek s = .next (finish x .ok)) ∧
      (kind = 2 → inside = false → precedes r.head x → exec .seek s = .next (finish r.head .clamped)) ∧
      (kind = 2 → inside = false → precedes r.head x = false →
        exec .seek s = .next (finish r.oldest .clamped))

/-- R98 to R100: INPUT by the state of its session, and the writer's INPUT against its position. That
the transmitter's choice follows at once is read as assumption 10 says. -/
def Obligations.InputIsSetAgainstTheStream : Prop :=
  ∀ (s : State) (f : RxFrame) (x : Word32) (bytes : List Byte), s.settled →
    s.takes f (.input x bytes) →
    ((s.session f.session).attachment = none → exec .input s = .next (s.afterFrame f [])) ∧
    ∀ a, (s.session f.session).attachment = some a →
      let q := s.port a.port
      let report (b : Attachment) (status : InputStatus) : State :=
        (s.afterFrame f []).withAttachment f.session
          (some ({ b with lastInput := status, flags := { b.flags with inputReport := true } }.gatherTest
            q.ring))
      (q.writer ≠ some f.session → exec .input s = .next (report a .notWriter)) ∧
      (q.writer = some f.session →
        (q.state = .disabled → exec .input s = .next (report a .portDisabled)) ∧
        (q.state ≠ .disabled →
          (atOrBefore x a.ip = false → exec .input s = .next (report a .gap)) ∧
          (atOrBefore x a.ip → bytes.length ≤ (a.ip - x).toNat →
            exec .input s = .next (report a .ok)) ∧
          (atOrBefore x a.ip → (a.ip - x).toNat < bytes.length →
            let fresh := bytes.drop (a.ip - x).toNat
            let taken := fresh.take (256 - q.queue.length)
            let b := { a with
              ip := a.ip + BitVec.ofNat 32 taken.length
              writerIdle := if taken = [] then a.writerIdle else s.freshWriterIdle }
            exec .input s = .next (txChoice a.port
              ((report b (if taken.length < fresh.length then .full else .ok)).withPort a.port
                { q with queue := q.queue ++ taken.map .byte })))))

/-- R102, R103: BREAK appends a token, RELEASE clears the hold flag, and the transmitter chooses
again; and their refusals. -/
def Obligations.BreakAndReleaseServed : Prop :=
  (∀ (s : State) (f : RxFrame), s.settled → s.takes f .breakRequest →
    (s.isWriter f.session = false →
      exec .breakRequest s = .next (s.afterFrame f [f.answer none .notWriter []])) ∧
    ∀ a, (s.session f.session).attachment = some a → (s.port a.port).writer = some f.session →
      let q := s.port a.port
      (q.state = .disabled →
        exec .breakRequest s = .next (s.afterFrame f [f.answer none .portDisabled []])) ∧
      (q.state ≠ .disabled → 256 ≤ q.queue.length →
        exec .breakRequest s = .next (s.afterFrame f [f.answer none .full []])) ∧
      (q.state ≠ .disabled → q.queue.length < 256 →
        exec .breakRequest s = .next (txChoice a.port ((s.afterFrame f [f.answer none .ok []]).withPort
          a.port { q with queue := q.queue ++ [.breakToken] })))) ∧
  ∀ (s : State) (f : RxFrame) (n : Nat), s.settled → s.takes f (.release n) →
    (32 ≤ n → exec .release s = .next (s.afterFrame f [f.answer none .range []])) ∧
    ∀ p : PortId, p.val = n →
      (((s.port p).writer = some f.session ∧ s.onPort f.session p) ∨ (s.stationFor f).rights.manage →
        exec .release s = .next (txChoice p ((s.afterFrame f [f.answer none .ok []]).withPort p
          { s.port p with hold := false }))) ∧
      ((s.port p).writer ≠ some f.session → (s.stationFor f).rights.manage = false →
        exec .release s = .next (s.afterFrame f [f.answer none .refusedAccess []]))

/-! ### The auxiliary lines -/

/-- R22, R23, R176: the checks of PULSE, the pulse it starts, and the normal end of a pulse, whose report
moves an ARMED entry that it fits (R144, R145). That an expiry is taken with any time left is the
model's choice (assumption 6), and that the transmitter then chooses at once is assumption 10. -/
def Obligations.PulseStartsAndEnds : Prop :=
  (∀ (s : State) (f : RxFrame) (n : Nat), s.takes f (.pulse n) →
    let w := s.stationFor f
    (s.settled → w.rights.pulse = false →
      exec .pulse s = .next (s.afterFrame f [f.answer none .refusedAccess []])) ∧
    (s.settled → w.rights.pulse → 32 ≤ n →
      exec .pulse s = .next (s.afterFrame f [f.answer none .range []])) ∧
    ∀ p : PortId, p.val = n → w.rights.pulse →
      let q := s.port p
      (s.settled → inSet w.ports p = false →
        exec .pulse s = .next (s.afterFrame f [f.answer none .refusedAccess []])) ∧
      (s.settled → inSet w.ports p → q.state = .disabled →
        exec .pulse s = .next (s.afterFrame f [f.answer none .portDisabled []])) ∧
      (s.settled → inSet w.ports p → q.state ≠ .disabled → q.active.auxA = .none →
        exec .pulse s = .next (s.afterFrame f [f.answer none .range []])) ∧
      (s.settled → inSet w.ports p → q.state ≠ .disabled → q.active.auxA ≠ .none → q.pulse ≠ none →
        exec .pulse s = .next (s.afterFrame f [f.answer none .pulseActive []])) ∧
      (inSet w.ports p → q.state ≠ .disabled → q.active.auxA ≠ .none → q.pulse = none →
        ∃ t, exec .pulse s = .next t ∧
          t.uplink.replies = s.uplink.replies ++ [f.answer none .ok []] ∧
          t.ports = s.ports.set p { q with
            pulse := some (q.active.pulseDuration * 10)
            ring := q.ring.addMark .pulseStart (BitVec.ofNat 16 q.active.pulseDuration) } ∧
          t.notice = s.notice ∧ t.keyins = s.keyins ∧ t.patterns = s.patterns ∧
          (t.port p).auxALevel = some (q.active.auxA == .resetHigh))) ∧
  ∀ (s : State) (p : PortId),
    ((s.port p).pulse = none → exec (.pulseTimerExpiry p) s = .next s) ∧
    ((s.port p).pulse ≠ none →
      let q := { s.port p with pulse := none, ring := (s.port p).ring.addMark .pulseEnd 0 }
      let fits (e : KeyinId) : Prop := (s.keyin e).state = .armed ∧
        (s.keyin e).trigger = .pulseEnd ∧ (s.keyin e).port = p ∧ (s.keyin e).hasContent = true
      ∃ t, exec (.pulseTimerExpiry p) s = .next t ∧
        t.notice = (raise .pulseDone (some p) 0 s).notice ∧
        ((∀ e : KeyinId, ¬ fits e) → t.ports = s.ports.set p q ∧ t.keyins = s.keyins) ∧
        ∀ e : KeyinId, fits e → s.othersIdle [e] →
          (q.state = .disabled → t.ports = s.ports.set p q ∧ t.keyins = s.keyins) ∧
          (q.state = .dead → t.ports = s.ports.set p q ∧
            t.keyins = s.keyins.set e { s.keyin e with state := .pending }) ∧
          (q.state ≠ .disabled → q.state ≠ .dead →
            t.begun e q.ring.head (s.keyin e).repeats ∧
            (t.port p).ring = q.ring.addMark .keyinStart (BitVec.ofNat 16 e.val) ∧
            (q.flight ≠ none → (t.port p).flight = q.flight) ∧
            (q.flight = none → q.maySend → ∃ i, (s.keyin e).items.head? = some i ∧
              (t.port p).flight = some ⟨keyinSignal q.active i, true⟩)))

/-- R24: a sample that agrees, a sample that differs, and the sample that completes the agree count.
That a sample is taken with any time left, and what it does where no qualifier runs, are the model's
choices (assumptions 6 and 14), and so is the change at the next differing sample where a switch has
lowered the agree count to or below the count already made (assumption 34). -/
def Obligations.SenseIsQualified : Prop :=
  ∀ (s : State) (p : PortId) (high : Bool),
    let q := s.port p
    let timer := some q.active.sensePeriod
    (¬ (q.active.auxB = .sense ∧ q.state ≠ .disabled) →
      exec (.senseSample p high) s = .next (s.withPort p { q with auxBHigh := high })) ∧
    (q.active.auxB = .sense → q.state ≠ .disabled →
      (s.settled → q.sense.active = !high →
        exec (.senseSample p high) s = .next (s.withPort p { q with
          auxBHigh := high, sense := { q.sense with count := 0, timer := timer } })) ∧
      (s.settled → q.sense.active = high → q.sense.count + 1 < q.active.senseAgree →
        exec (.senseSample p high) s = .next (s.withPort p { q with
          auxBHigh := high, sense := { q.sense with count := q.sense.count + 1, timer := timer } })) ∧
      (q.sense.active = high → q.active.senseAgree ≤ q.sense.count + 1 → s.keyinsIdle →
        let arg : Word16 := if high then 0 else 1
        ∃ t, exec (.senseSample p high) s = .next t ∧
          t.ports = s.ports.set p { q with
            auxBHigh := high
            sense := { active := !high, count := 0, timer := timer }
            ring := q.ring.addMark .sense arg } ∧
          (t.notice.mask = s.notice.mask ∧ t.keyins = s.keyins) ∧
          (s.notice.mask.getLsbD 7 → s.notice.queue = [] →
            t.notice.queue = [⟨.senseChange, some p, arg, q.ring.head, 1, some q.state, some (!high)⟩])))

/-! ### Reception -/

/-- R14, R45, R116 to R121, R5, R125, R126, R145, R152: a byte stored in LIVE, and, for one match with no
comparator enabled, what its steps do: the ONCE disarm, the mark, the count and the cause, the action,
and the report as a trigger and as a stop match. The order of the events is an operand (assumption 12);
what the row does outside LIVE is the model's (assumption 6); that a stop match needs a byte stored since
the start is read as assumption 17 says. Equality of rate lists, by which STAGE makes a switch or none, is
read as assumption 20 says. That the parity-error event, with its firings, comes after the byte is in the
ring is the model's choice (assumption 43). -/
def Obligations.StoringAByte : Prop :=
  ∀ (s : State) (p : PortId) (data : Byte) (parityBit : Bool) (order : StoreOrder),
    let q := s.port p
    let b := receivedByte q.active.dataBits data
    let c : Instr := .byteStored p data parityBit order
    (q.state ≠ .live → exec c s = .next s) ∧
    (q.state = .live →
      (∃ t, exec c s = .next t ∧
        (t.port p).ring.head = q.ring.head + 1 ∧
        (t.port p).ring.held =
          (if q.ring.fill < q.capacity then q.ring.held ++ [b] else (q.ring.held ++ [b]).drop 1) ∧
        (t.port p).counters.rxb = satInc q.counters.rxb ∧ (t.port p).counters.una = 0 ∧
        (t.port p).counters.per =
          (if parityError q.active data parityBit then satInc q.counters.per else q.counters.per) ∧
        (s.comparatorsOff ∨ (1 ≤ order.storedAt ∧ 1 ≤ order.parityAt) →
          ∀ i : PatternId, (t.patternEntry i).matchCount =
            if i ∈ (s.pushByte p b).matchSet p then satInc (s.patternEntry i).matchCount
            else (s.patternEntry i).matchCount)) ∧
      ∀ (i : PatternId) (x : Pattern), s.comparatorsOff → (s.patternEntry i).pattern = some x →
        (s.pushByte p b).matchSet p = [i] →
        let m := q.matchedBy b (parityError q.active data parityBit) i x
        ∃ t, exec c s = .next t ∧
          ((t.port p).counters = m.counters ∧
            ((t.patternEntry i).windows[p] = none ↔ x.rearm = .once) ∧
            (s.notice.mask.getLsbD 3 → s.notice.queue = [] → t.firstNotice =
              some (.patternMatch, some p, BitVec.ofNat 16 i.val, q.ring.head + 1, 1))) ∧
          (s.keyinsIdle → s.acted t x.action p m) ∧
          ∀ e : KeyinId, (s.keyin e).port = p → s.othersIdle [e] →
            let w := s.keyin e
            (w.state = .armed → w.trigger = .patternMatch i → w.hasContent → x.action = .none →
              t.begun e (q.ring.head + 1) w.repeats ∧
              (t.port p).ring = m.ring.addMark .keyinStart (BitVec.ofNat 16 e.val)) ∧
            ∀ (r : Run) (o : Outcome), w.state = .running r → r.stop = none →
              (x.action = .stopKeyin ∧ o = .stoppedByAction) ∨
                (x.action = .none ∧ w.stopPattern = some i ∧ o = .stoppedByMatch) →
              (r.inFlight = true → t.ports = s.ports.set p m ∧ t.keyins = s.keyins.set e
                { w with state := .running { r with stop := some o, byteSince := true } }) ∧
              (r.inFlight = false → w.trigger ≠ .patternMatch i →
                (t.keyin e).lastOutcome = some o ∧ (t.keyin e).state = w.restState ∧
                (t.port p).ring = m.ring.addMark .keyinEnd (endArgument e o)))

/-- R15, R16: a framing error is counted, and a space run records at most one BREAK. R133 to R135: the
evaluation of a comparator at the counter event, and what its firing does. That a framing error after the BREAK of its run is none is read as assumption 15 says. Equality of rate lists, by which STAGE makes a
switch or none, is read as assumption 20 says. -/
def Obligations.FramingErrorsAndBreaks : Prop :=
  ∀ (s : State) (p : PortId),
    let q := s.port p
    (¬ (q.state = .live ∧ q.breakSeen = false) →
      exec (.framingError p) s = .next s ∧ exec (.breakRecorded p) s = .next s) ∧
    (q.state = .live → q.breakSeen = false →
      (∃ t, exec (.framingError p) s = .next t ∧
        (t.port p).counters.fer = satInc q.counters.fer ∧
        (s.comparatorsOff → t.ports = s.ports.set p { q with
          rxMark := true, counters := { q.counters with fer := satInc q.counters.fer } } ∧
          t.notice = s.notice ∧ t.patterns = s.patterns) ∧
        ∀ i : ComparatorId, s.onlyEnabled i → (s.comparator i).port = p →
          (s.comparator i).counter = .fer → s.evaluatedAt t i { q with
            rxMark := true, counters := { q.counters with fer := satInc q.counters.fer } }) ∧
      ∃ t, exec (.breakRecorded p) s = .next t ∧
        (t.port p).counters.brk = satInc q.counters.brk ∧
        (∀ i : PatternId, ∀ w ∈ (t.patternEntry i).windows[p], w = []) ∧
        (s.comparatorsOff → t.ports = s.ports.set p { q with
          rxMark := false
          breakSeen := true
          counters := { q.counters with brk := satInc q.counters.brk }
          ring := q.ring.addMark .breakRx 0 } ∧
          t.notice = (raise .breakRx (some p) 0 s).notice))

/-- R12, R16, R155: entry into DEAD from DETECTING or LIVE, with a BREAK first where LIVE has recorded
none; LINE_DEAD is raised, and the entry RUNNING on the port is aborted. What becomes of an entry that a BREAK's comparator
starts or ends is assumption 18; the statement has no comparator enabled. -/
def Obligations.EnteringDead : Prop :=
  ∀ (s : State) (p : PortId), s.comparatorsOff →
    let q := s.port p
    let breaks := q.state = .live ∧ q.breakSeen = false
    (q.state ≠ .live → q.state ≠ .detecting → exec (.deadThreshold p) s = .next s) ∧
    (q.state = .live ∨ q.state = .detecting →
      ∃ t, exec (.deadThreshold p) s = .next t ∧
        ((t.port p).state = .dead ∧ (t.port p).detector.window = .closed ∧
          (t.port p).queue = q.queue ∧ (t.port p).hold = q.hold ∧ (t.port p).divisor = q.divisor ∧
          (t.port p).pulse = q.pulse) ∧
        (t.port p).counters.deads = satInc q.counters.deads ∧
        (breaks → (t.port p).counters.brk = satInc q.counters.brk) ∧
        (¬ breaks → (t.port p).counters.brk = q.counters.brk) ∧
        (∀ i : PatternId, ∀ w ∈ (t.patternEntry i).windows[p], w = []) ∧
        (s.runningOn p = none → (t.port p).ring =
          (if breaks then q.ring.addMark .breakRx 0 else q.ring).addMark .dead 0) ∧
        (s.notice.queue.length ≤ 30 → ∃ n ∈ t.notice.queue,
          n.cause = .lineDead ∧ n.port = some p ∧ n.arg = 0 ∧ n.portState = some .dead) ∧
        ∀ e : KeyinId, s.runningOn p = some e →
          (t.keyin e).lastOutcome = some .abortedDead ∧
          (t.keyin e).state = if (s.keyin e).rearm then .armed else .idle)

/-- R11, R13: RXD back at mark starts the live qualification time in DEAD; when it has run, the port
goes to DETECTING or to LIVE by its profile and its rate-found flag. R8: SWITCHING ends when no item
is in flight, in DETECTING or in LIVE by the rate mode. That the qualification starts at a
SPACE_RUN_END is read as assumption 15 says, and how SWITCHING ends as assumption 11 says; that
LIVE_QUALIFICATION is taken with any time left is the model's choice (assumption 6). -/
def Obligations.PortsLeaveDeadAndSwitching : Prop :=
  (∀ (s : State) (p : PortId),
    let q := s.port p
    (exec (.spaceRunEnd p) s = .next (s.withPort p { q with
      rxMark := true
      breakSeen := false
      qualTimer := if q.state = .dead then some q.active.liveQual else q.qualTimer })) ∧
    (¬ (q.state = .dead ∧ q.qualTimer ≠ none) → exec (.liveQualification p) s = .next s) ∧
    (q.state = .dead → q.qualTimer ≠ none →
      let redetects := q.active.rateMode = .auto ∧ (q.active.redetect = true ∨ q.rateFound = false)
      ∃ t, exec (.liveQualification p) s = .next t ∧
        (t.port p).state = (if redetects then .detecting else .live) ∧
        (t.port p).divisor = q.divisor ∧ (t.port p).qualTimer = none ∧
        (redetects → (t.port p).detector.window = .discarding ∧ (t.port p).detector.level = q.rxMark ∧
          (t.port p).detector.timer = some (q.active.detectWindow * 100)) ∧
        (s.keyinsIdle → (t.port p).ring = q.ring.addMark .live 0 ∧
          (s.notice.mask.getLsbD 0 → s.notice.queue = [] →
            t.notice.queue.map (fun n => (n.cause, n.port, n.arg)) = [(.lineLive, some p, 0)])))) ∧
  ∀ (s : State) (p : PortId),
    let q := s.port p
    (s.settled → (q.state ≠ .switching ∨ q.flight ≠ none) →
      exec (.switchingEnd p) s = .next s) ∧
    (q.state = .switching → q.flight = none →
      ∃ t, exec (.switchingEnd p) s = .next t ∧
        (q.active.rateMode = .auto →
          (t.port p).state = .detecting ∧ (t.port p).divisor = q.divisor ∧
          (t.port p).detector.window = .discarding ∧ (t.port p).detector.level = q.rxMark ∧
          (t.port p).ring = q.ring ∧
          t.notice = s.notice) ∧
        (q.active.rateMode = .fixed →
          (t.port p).state = .live ∧ (t.port p).divisor = divisorOf q.active.fixedRate ∧
          (s.keyinsIdle →
            (t.port p).ring =
              q.ring.addMark .rateSet (BitVec.ofNat 16 (divisorOf q.active.fixedRate)) ∧
            (s.notice.mask.getLsbD 2 → s.notice.queue = [] →
              t.notice.queue.map (fun n => (n.cause, n.port, n.arg)) =
                [(.rateSet, some p, BitVec.ofNat 16 (divisorOf q.active.fixedRate))]))))

/-! ### Detection -/

/-- R33 to R38: an edge of a glitch leaves the run in progress as it was; an accepted edge acts by the
window state; the K-th counted run is evaluated, and the nearest admissible rate, the higher of two as
near, sets the divisor. The reference tick of the edge, the level it leaves and how long that level holds
are operands (assumption 33), and outside DETECTING an edge is recorded as RXD's level (assumption 14).
-/
def Obligations.DetectorCountsAndEvaluates : Prop :=
  ∀ (s : State) (p : PortId) (edge held : Nat) (mark : Bool),
    let q := s.port p
    let d := q.detector
    let run := edge - d.runStart
    let shortest := match d.minRun with
      | none => run
      | some m => min m run
    let c : Instr := .detectorRun p ⟨edge, held⟩ mark
    (q.state ≠ .detecting ∨ mark = d.level ∨ held < 32 →
      exec c s = .next (s.withPort p { q with rxMark := mark })) ∧
    (q.state = .detecting → mark ≠ d.level → 32 ≤ held →
      (s.settled → d.window = .discarding → (∀ m ∈ d.minRun, d.count < q.active.runsNeeded) →
        exec c s = .next (s.withPort p { q with
          rxMark := mark
          detector := { d with window := .counting, level := mark, runStart := edge } })) ∧
      (d.window = .counting → d.runStart + 32 ≤ edge →
        (s.settled → d.count + 1 < q.active.runsNeeded →
          exec c s = .next (s.withPort p { q with
            rxMark := mark
            detector := { d with
              level := mark, runStart := edge, count := d.count + 1, minRun := some shortest } })) ∧
        (q.active.runsNeeded ≤ d.count + 1 →
          (∀ r ∈ q.active.rateList, admissible q.active.tolerance shortest r →
            (∀ r' ∈ q.active.rateList, admissible q.active.tolerance shortest r' →
              rateDistance shortest r ≤ rateDistance shortest r' ∧
              (rateDistance shortest r = rateDistance shortest r' → r' ≤ r)) →
            ∃ t, exec c s = .next t ∧
              (t.port p).state = .live ∧ (t.port p).rateFound = true ∧
              (t.port p).divisor = divisorOf r ∧ (t.port p).detector.window = .closed ∧
              (s.keyinsIdle →
                (t.port p).ring = q.ring.addMark .rateSet (BitVec.ofNat 16 (divisorOf r)))) ∧
          (s.settled → (∀ r ∈ q.active.rateList, admissible q.active.tolerance shortest r = false) →
            exec c s = .next { s.withPort p { q with
                rxMark := mark
                detector := { d with
                  window := .discarding
                  level := mark
                  runStart := edge
                  count := 0
                  minRun := none
                  timer := some (q.active.detectWindow * 100) } } with
              notice :=
                (raise .rateUnmatched (some p) (BitVec.ofNat 16 (min shortest 65535)) s).notice }))))

/-- R29, R36, R39: the divisor is the nearest integer to 18,432,000/r within 16..65,535, an exact half
rounded up; the test of an admissible rate; an expiry reopens the window. That the expiry is taken with
any time left on its timer, and changes nothing where none runs, is the model's choice (assumption 6). That
the reopened window keeps the level of the run in progress, which inside a glitch is not the line's, is read
as assumption 42 says. -/
def Obligations.RateArithmetic : Prop :=
  (∀ r : Nat, 1 ≤ r →
    let n := divisorOf r
    16 ≤ n ∧ n ≤ 65535 ∧
    (300 ≤ r → r ≤ 1152000 → 2 * n * r ≤ 36864000 + r ∧ 36864000 + r < 2 * (n + 1) * r)) ∧
  (∀ tolerance m r : Nat, admissible tolerance m r ↔
    64 * |(m : Int) * r - 36864000| ≤ 36864000 * tolerance) ∧
  ∀ (s : State) (p : PortId),
    let q := s.port p
    (q.state = .detecting → q.detector.timer ≠ none →
      exec (.detectionWindowExpiry p) s = .next (s.withPort p { q with
        detector := { q.detector with
          window := .discarding
          count := 0
          minRun := none
          timer := some (q.active.detectWindow * 100) } })) ∧
    (¬ (q.state = .detecting ∧ q.detector.timer ≠ none) →
      exec (.detectionWindowExpiry p) s = .next s)

/-! ### The transmitter -/

/-- R17, R19: the choice of an idle transmitter, and CTS. The AUX-B level is an operand (assumption
14). -/
def Obligations.TransmitterChooses : Prop :=
  ∀ (s : State) (p : PortId) (high : Bool), s.settled →
    let q := { s.port p with auxBHigh := high }
    let stays := s.withPort p q
    let sends := (q.state = .detecting ∨ q.state = .live) ∧ ¬ (q.active.flow = .cts ∧ high = true)
    ((q.flight ≠ none ∨ ¬ sends) → exec (.transmitterChoice p high) s = .next stays) ∧
    (q.flight = none → sends →
      (∀ e : KeyinId, s.runningOn p = some e →
        ((s.keyin e).readyItem = none → exec (.transmitterChoice p high) s = .next stays) ∧
        ∀ i, (s.keyin e).readyItem = some i →
          exec (.transmitterChoice p high) s = .next ((s.withPort p { q with
            flight := some { signal := keyinSignal q.active i, fromKeyin := true } }).modKeyin e
              (·.mapRun fun r => { r with place := r.place + 1, inFlight := true }))) ∧
      (s.runningOn p = none →
        (q.hold = true ∨ q.queue = [] → exec (.transmitterChoice p high) s = .next stays) ∧
        ∀ i rest, q.hold = false → q.queue = i :: rest →
          exec (.transmitterChoice p high) s = .next (s.withPort p { q with
            queue := rest
            flight := some { signal := queueSignal q.active i, fromKeyin := false } }))) ∧
    (q.active.auxB = .cts → ∃ t,
      exec (.ctsAssert p) s = .next t ∧ exec (.transmitterChoice p false) s = .next t) ∧
    (q.active.auxB ≠ .cts →
      exec (.ctsAssert p) s = .next (s.withPort p { s.port p with auxBHigh := false }))

/-- R18: at the end of its last stop bit a byte counts one in TXB and one in UNA; a BREAK item counts
in neither; where no comparator acts and no entry runs, the head of the queue is next. R149, R150, R152,
R157: the same end as the end of an item of the entry RUNNING on the port. The order of the two takers of
a byte's end is an operand (assumption 12), and the choice follows at once (assumption 10). -/
def Obligations.ItemsEndAtTheTransmitter : Prop :=
  ∀ (s : State) (p : PortId) (keyinFirst fromKeyin : Bool),
    let q := s.port p
    let sent := { q.counters with
      txb := satInc q.counters.txb, una := satInc q.counters.una }
    let idle (k : Counters) : Port := { q with flight := none, counters := k }
    (∀ value levels, q.flight = some ⟨.character value levels, fromKeyin⟩ →
      ∃ t, exec (.byteSent p keyinFirst) s = .next t ∧
        (t.port p).counters.txb = satInc q.counters.txb ∧
        (t.port p).counters.una = satInc q.counters.una ∧
        (s.comparatorsOff → s.keyinsIdle → t.ports = s.ports.set p (idle sent).freed)) ∧
    (∀ ms, q.flight = some ⟨.breakSpace ms, fromKeyin⟩ →
      ∃ t, exec (.breakTokenEnd p) s = .next t ∧
        (t.port p).counters = q.counters ∧
        (s.keyinsIdle → t.ports = s.ports.set p (idle q.counters).freed)) ∧
    (q.flight = none →
      exec (.byteSent p keyinFirst) s = .next s ∧ exec (.breakTokenEnd p) s = .next s) ∧
    ∀ (e : KeyinId) (r : Run) (c : Instr) (k : Counters), s.comparatorsOff →
      (s.keyin e).state = .running r → (s.keyin e).port = p → r.inFlight = true → r.interval = none →
      (∃ value levels, q.flight = some ⟨.character value levels, fromKeyin⟩ ∧
          c = .byteSent p keyinFirst ∧ k = sent) ∨
        (∃ ms, q.flight = some ⟨.breakSpace ms, fromKeyin⟩ ∧ c = .breakTokenEnd p ∧
          k = q.counters) →
      let w := s.keyin e
      let n := w.items.length
      let finishes (o : Outcome) : Prop := r.stop = some o ∨
        (r.stop = none ∧ n ≤ r.place ∧ r.remaining = some 1 ∧
          o = if w.stopPattern = none then .completed else .exhausted)
      let ended (o : Outcome) : Ring := q.ring.addMark .keyinEnd (BitVec.ofNat 16 (e.val * 256 + o.code))
      ∃ t, exec c s = .next t ∧
        (s.othersIdle [e] →
          (∀ o, finishes o →
            t.keyins = s.keyins.set e { w with state := w.restState, lastOutcome := some o } ∧
            t.ports = s.ports.set p (Port.freed { idle k with ring := ended o }) ∧
            t.notice = (raise
              (if o = .exhausted ∨ o = .abortedDead ∨ o = .abortedRestart then .keyinFailed else .keyinDone)
              (some p) (BitVec.ofNat 16 (e.val * 256 + o.code)) s).notice) ∧
          (r.stop = none → n ≤ r.place → r.remaining ≠ some 1 → r.remaining ≠ some 0 →
            t.ports = s.ports.set p (idle k) ∧
            t.keyins = s.keyins.set e { w with state := .running { r with
              inFlight := false
              remaining := r.remaining.map (· - 1)
              interval := some (w.interval * 10) } }) ∧
          ∀ i, r.stop = none → w.items[r.place]? = some i →
            ((idle k).maySend = false → t.ports = s.ports.set p (idle k) ∧
              t.keyins = s.keyins.set e { w with state := .running { r with inFlight := false } }) ∧
            ((idle k).maySend = true →
              t.ports = s.ports.set p { idle k with flight := some ⟨keyinSignal q.active i, true⟩ } ∧
              t.keyins = s.keyins.set e { w with state := .running { r with place := r.place + 1 } })) ∧
        ∀ (e' : KeyinId) (o : Outcome), e' ≠ e → s.othersIdle [e, e'] → finishes o →
          (s.keyin e').port = p → q.state ≠ .disabled → q.state ≠ .dead →
          ((s.keyin e').state = .pending ∨
            ((s.keyin e').state = .armed ∧ (s.keyin e').trigger = .after e ∧
              (s.keyin e').hasContent = true)) →
          (t.keyin e).lastOutcome = some o ∧ (t.keyin e).state = w.restState ∧
          t.begun e' q.ring.head (s.keyin e').repeats ∧
          (t.port p).ring = (ended o).addMark .keyinStart (BitVec.ofNat 16 e'.val)

/-! ### Marks and notices -/

/-- R49: writing a mark on a ring. R161, R163: what becomes of a raise. -/
def Obligations.MarksAndCausesAreRecorded : Prop :=
  (∀ (r : Ring) (kind : MarkKind) (arg : Word16),
    let m : Mark := ⟨r.nextMark, r.head, kind, arg⟩
    (r.marks.length < 16 → (r.addMark kind arg).marks = r.marks ++ [m]) ∧
    (∀ first rest, r.marks = first :: rest → r.marks.length = 16 →
      (r.addMark kind arg).marks = rest ++ [m]) ∧
    (r.addMark kind arg).nextMark = r.nextMark + 1 ∧
    (r.addMark kind arg).head = r.head ∧ (r.addMark kind arg).held = r.held) ∧
  ∀ (s : State) (c : Cause) (p : Option PortId) (arg : Word16),
    let u := s.notice
    let kept := c.isEvent = false ∨ u.mask.getLsbD (c.code - 16) = true
    let n := s.noticeOf c p arg
    (¬ kept → raise c p arg s = s) ∧
    (kept →
      (∀ before m after, u.queue = before ++ m :: after →
        (∀ x ∈ before ++ after, ¬ (x.cause = c ∧ x.port = p ∧ x.arg = arg)) →
        m.cause = c → m.port = p → m.arg = arg → 1 ≤ m.count → m.count ≤ 255 →
        raise c p arg s = { s with notice := { u with queue := before ++
          { m with
            count := min 255 (m.count + 1)
            portState := n.portState
            sense := n.sense } :: after } }) ∧
      ((∀ x ∈ u.queue, ¬ (x.cause = c ∧ x.port = p ∧ x.arg = arg)) →
        (u.queue.length < 32 →
          raise c p arg s = { s with notice := { u with queue := u.queue ++ [n] } }) ∧
        (32 ≤ u.queue.length →
          raise c p arg s = { s with notice := { u with overflow := true } })))

/-! ### Key-in and watch requests -/

/-- R143: ARM, check by check. -/
def Obligations.ArmServed : Prop :=
  ∀ (s : State) (f : RxFrame) (n : Nat), s.settled → s.takes f (.arm n) →
    let w := s.stationFor f
    let refused (r : Result) : Prop := exec .arm s = .next (s.afterFrame f [f.answer none r []])
    (w.rights.keyin = false → refused .refusedAccess) ∧
    (w.rights.keyin → 16 ≤ n → refused .range) ∧
    ∀ e : KeyinId, e.val = n → w.rights.keyin →
      let x := s.keyin e
      (inSet w.ports x.port = false → refused .refusedAccess) ∧
      (inSet w.ports x.port → x.preBreak = 0 → x.string = [] → refused .range) ∧
      (inSet w.ports x.port → (x.preBreak ≠ 0 ∨ x.string ≠ []) → x.engaged → refused .inUse) ∧
      (inSet w.ports x.port → (x.preBreak ≠ 0 ∨ x.string ≠ []) →
        (x.state = .idle ∨ x.state = .armed) →
        exec .arm s = .next { s.afterFrame f [f.answer none .ok [1]] with
          keyins := s.keyins.set e { x with state := .armed } })

/-- R146 to R148: the checks of KEYIN_START, and the run it starts where nothing runs on a port that
may start one. That the transmitter's choice follows at once is read as assumption 10 says. -/
def Obligations.KeyinStartServed : Prop :=
  ∀ (s : State) (f : RxFrame) (n : Nat), s.takes f (.keyinStart n) →
    let w := s.stationFor f
    let refused (r : Result) : Prop :=
      exec .keyinStart s = .next (s.afterFrame f [f.answer none r []])
    (s.settled → w.rights.keyin = false → refused .refusedAccess) ∧
    (s.settled → w.rights.keyin → 16 ≤ n → refused .range) ∧
    ∀ e : KeyinId, e.val = n → w.rights.keyin →
      let x := s.keyin e
      let q := s.port x.port
      (s.settled → inSet w.ports x.port = false → refused .refusedAccess) ∧
      (s.settled → inSet w.ports x.port → x.hasContent = false → refused .range) ∧
      (s.settled → inSet w.ports x.port → x.hasContent → x.engaged → refused .inUse) ∧
      (s.settled → inSet w.ports x.port → x.hasContent → x.engaged = false → q.state = .disabled →
        refused .portDisabled) ∧
      (inSet w.ports x.port → x.hasContent → x.engaged = false → q.state ≠ .disabled →
        (s.settled → q.state = .dead →
          exec .keyinStart s = .next { s.afterFrame f [f.answer none .ok [2]] with
            keyins := s.keyins.set e { x with state := .pending } }) ∧
        (q.state ≠ .dead → (∀ e' : KeyinId, (s.keyin e').engaged → (s.keyin e').port ≠ x.port) →
          ∃ t, exec .keyinStart s = .next t ∧
            t.uplink.replies = s.uplink.replies ++ [f.answer none .ok [3]] ∧
            (t.port x.port).ring = q.ring.addMark .keyinStart (BitVec.ofNat 16 n) ∧
            t.begun e q.ring.head x.repeats))

/-- R150, R152, R154: KEYIN_STOP by the state of its entry, and the end of an interval wait. That an
expiry is taken with any time left is the model's choice (assumption 6). -/
def Obligations.KeyinStopAndInterval : Prop :=
  (∀ (s : State) (f : RxFrame) (n : Nat), s.takes f (.keyinStop n) →
    let w := s.stationFor f
    let answered (r : Result) (values : List Byte) : Prop :=
      exec .keyinStop s = .next (s.afterFrame f [f.answer none r values])
    (s.settled → w.rights.keyin = false → answered .refusedAccess []) ∧
    (s.settled → w.rights.keyin → 16 ≤ n → answered .range []) ∧
    ∀ e : KeyinId, e.val = n → w.rights.keyin →
      let x := s.keyin e
      (s.settled → inSet w.ports x.port = false → answered .refusedAccess []) ∧
      (inSet w.ports x.port →
        (s.settled → x.state = .idle → answered .ok [0]) ∧
        (s.settled → x.state = .armed → answered .ok [1]) ∧
        (x.state = .pending →
          ∃ t, exec .keyinStop s = .next t ∧
            t.uplink.replies.length = s.uplink.replies.length + 1 ∧
            (t.keyin e).lastOutcome = some .stoppedByRequest ∧
            (t.keyin e).state = if x.rearm then .armed else .idle) ∧
        ∀ r : Run, x.state = .running r → r.stop = none →
          (s.settled → r.inFlight →
            exec .keyinStop s = .next { s.afterFrame f [f.answer none .ok [3]] with
              keyins := s.keyins.set e
                { x with state := .running { r with stop := some .stoppedByRequest } } }) ∧
          (r.inFlight = false → (∀ e' : KeyinId, e' ≠ e → (s.keyin e').state = .idle) →
            ∃ t, exec .keyinStop s = .next t ∧
              (t.port x.port).ring = (s.port x.port).ring.addMark .keyinEnd (endArgument e .stoppedByRequest) ∧
              (t.keyin e).lastOutcome = some .stoppedByRequest ∧
              (t.keyin e).state = if x.rearm then .armed else .idle))) ∧
  ∀ (s : State) (e : KeyinId), s.oneRunning →
    (s.settled → (∀ r ∈ (s.keyin e).run?, r.interval = none) →
      exec (.intervalTimerExpiry e) s = .next s) ∧
    ∀ r : Run, (s.keyin e).state = .running r → r.interval ≠ none →
      ∃ t, exec (.intervalTimerExpiry e) s = .next t ∧
        ((t.keyin e).run?.map fun r' => (r'.cycle, r'.interval, r'.remaining)) =
          some (r.cycle + 1, none, r.remaining) ∧
        ((s.port (s.keyin e).port).maySend = false →
          ((t.keyin e).run?.map fun r' => r'.place) = some 0) ∧
        t.notice = s.notice

/-- R115: REARM, check by check, on one port and on all; and what a window that REARM opened, or a
disarmed pattern, makes of a stored byte. -/
def Obligations.RearmServed : Prop :=
  (∀ (s : State) (f : RxFrame) (n port : Nat), s.settled → s.takes f (.rearm n port) →
    let w := s.stationFor f
    let refused (r : Result) : Prop := exec .rearm s = .next (s.afterFrame f [f.answer none r []])
    let arms (x : PatternEntry) (p : PortId) (ps : PortId → Bool) : Option (List Byte) :=
      if ps p && x.windows[p].isNone then some [] else x.windows[p]
    (w.rights.keyin = false → refused .refusedAccess) ∧
    (w.rights.keyin → (64 ≤ n ∨ (32 ≤ port ∧ port ≠ 0xFF)) → refused .range) ∧
    ∀ i : PatternId, i.val = n → w.rights.keyin →
      let x := s.patternEntry i
      (x.pattern = none → (port < 32 ∨ port = 0xFF) → refused .range) ∧
      ∀ t : Pattern, x.pattern = some t →
        (∀ p : PortId, p.val = port →
          (inSet t.ports p = false → refused .range) ∧
          (inSet t.ports p → inSet w.ports p = false → refused .refusedAccess) ∧
          (inSet t.ports p → inSet w.ports p → ∃ y : PatternEntry,
            exec .rearm s = .next { s.afterFrame f [f.answer none .ok []] with
              patterns := s.patterns.set i y } ∧
            y.pattern = x.pattern ∧ y.matchCount = x.matchCount ∧
            ∀ p' : PortId, y.windows[p'] = arms x p' (· == p))) ∧
        (port = 0xFF → ∃ y : PatternEntry,
          exec .rearm s = .next { s.afterFrame f [f.answer none .ok []] with
            patterns := s.patterns.set i y } ∧
          y.pattern = x.pattern ∧ y.matchCount = x.matchCount ∧
          ∀ p' : PortId, y.windows[p'] = arms x p' fun p => inSet t.ports p && inSet w.ports p)) ∧
  ∀ (x : PatternEntry) (t : Pattern) (p : PortId) (b : Byte), x.pattern = some t → t.bytes ≠ [] →
    (x.windows[p] = none → x.push p b = x ∧ x.matchesOn p = false) ∧
    (x.windows[p] = some [] → (x.push p b).windows[p] = some [b] ∧
      ((x.push p b).matchesOn p = true ↔ (t.bytes.map fun a => t.agrees a b) = [true]))

/-! ### MANAGE -/

/-- R177: the checks before an operation's own. That the row UNKNOWN_KIND serves the names outside the
manual is the model's choice (assumption 8), and so is that their bodies may have any length (assumption
37). -/
def Obligations.ManageRefusals : Prop :=
  ∀ (s : State) (f : RxFrame) (op : Byte) (m : Manage), s.settled → s.takes f (.manage op m) →
    let refused (r : Result) : Prop :=
      exec m.row s = .next (s.afterFrame f [f.answer (some op) r []])
    ((s.stationFor f).rights.manage = false → refused .refusedAccess) ∧
    ((s.stationFor f).rights.manage →
      (m = .otherOperation → refused .range) ∧
      (m.isRead = false → s.saving ≠ none → refused .saveActive) ∧
      (m = .settingWriteOther ∨ m = .profileWriteOther → s.saving = none → refused .range))

/-- The reads of R177: each answers the fields of its rule, whether or not a SAVE is in progress, and
changes nothing; a number outside the table is refused with RANGE. The layouts are read as assumption 22
says; a time left and "unlimited" are of assumptions 5 and 9, and the bytes of an invalid pattern, of an
entry that is not RUNNING and of the key-in flag of an idle transmitter of assumption 35. -/
def Obligations.ReadsAnswerAndChangeNothing : Prop :=
  ∀ (s : State) (f : RxFrame) (op : Byte) (m : Manage), s.settled → s.takes f (.manage op m) →
    (s.stationFor f).rights.manage →
    let answered (r : Result) (values : List Byte) : Prop :=
      exec m.row s = .next (s.afterFrame f [f.answer (some op) r values])
    let flag (b : Bool) : Byte := if b then 1 else 0
    let u := s.notice
    let timeLeft (t : Option Nat) : List Byte := match t with
      | some n => [1] ++ bytesOf 1 (tenMsUnits n)
      | none => [0, 0]
    (∀ n, m = .stationRead n → (16 ≤ n → answered .range []) ∧
      ∀ e : StationId, e.val = n → answered .ok (encStation ((s.station e).raw n) ++
        bytesOf 1 (s.sessionCount e) ++ encFlag (s.commissioning && e == 0))) ∧
    (∀ n, m = .patternRead n → (64 ≤ n → answered .range []) ∧
      ∀ i : PatternId, i.val = n →
        let x := s.patternEntry i
        (x.pattern = none → x.matchCount = 0 → (∀ p : PortId, x.windows[p] = none) →
          answered .ok (List.replicate 21 0)) ∧
        ∀ y : Pattern, x.pattern = some y → ∃ armed : PortSet,
          (∀ p : PortId, inSet armed p = x.windows[p].isSome) ∧
          answered .ok ([1] ++ bytesOf 1 y.bytes.length ++ y.bytes ++
            (match y.wildcard with
              | some b => [1, b]
              | none => [0, 0]) ++
            [flag y.caseFold] ++ bytesOf 4 y.ports.toNat ++ bytesOf 1 y.rearm.code ++
            [flag y.markFlag] ++ encPair y.action.raw ++ bytesOf 4 x.matchCount.toNat ++
            bytesOf 4 armed.toNat)) ∧
    (∀ n, m = .comparatorRead n → (16 ≤ n → answered .range []) ∧
      ∀ i : ComparatorId, i.val = n → answered .ok
        (encComparator ((s.comparator i).raw n) ++ encFlag (s.comparator i).last)) ∧
    (∀ n, m = .keyinRead n → (16 ≤ n → answered .range []) ∧
      ∀ e : KeyinId, e.val = n →
        let w := s.keyin e
        let outcome := match w.lastOutcome with
          | some o => bytesOf 1 o.code
          | none => [0xFF]
        answered .ok (bytesOf 1 w.port.val ++ bytesOf 2 w.preBreak ++ bytesOf 1 w.string.length ++
          w.string ++ bytesOf 1 w.repeats ++ bytesOf 2 w.interval ++
          (match w.stopPattern with
            | some i => bytesOf 1 i.val
            | none => [0xFF]) ++
          encPair w.trigger.raw ++ [flag w.autoArm, flag w.rearm] ++
          match w.state with
          | .idle => [0, 0, 0] ++ outcome
          | .armed => [1, 0, 0] ++ outcome
          | .pending => [2, 0, 0] ++ outcome
          | .running r =>
            [3, 1] ++ bytesOf 1 (r.remaining.getD Config.unlimitedRepeats.toNat) ++ outcome ++
              bytesOf 4 r.start.toNat ++ [flag r.stop.isSome])) ∧
    (∀ n, m = .portStatus n → (32 ≤ n → answered .range []) ∧
      ∀ p : PortId, p.val = n →
        let q := s.port p
        let line := bytesOf 1 q.state.code ++ [flag q.rateFound] ++ bytesOf 2 q.divisor ++
          bytesOf 3 (18432000 / q.divisor) ++ encProfile q.active.raw ++
          (match q.staged with
            | some g => [1] ++ encProfile g.raw
            | none => [0]) ++
          [flag q.hold] ++ bytesOf 2 q.queue.length ++
          (match q.flight with
            | some x => [1, flag x.fromKeyin]
            | none => [0, 0]) ++
          (match q.pulse with
            | some n => [1] ++ bytesOf 2 (tenMsUnits n)
            | none => [0, 0xFF, 0xFF]) ++
          [if q.active.auxB = .sense then flag q.sense.active else 0xFF,
            if q.active.auxB = .cts then flag (!q.auxBHigh) else 0xFF]
        let store := bytesOf 3 q.capacity ++ bytesOf 4 q.ring.head.toNat ++ bytesOf 3 q.ring.fill ++
          bytesOf 4 q.ring.oldest.toNat ++ bytesOf 1 q.ring.marks.length ++
          (match q.ring.marks with
            | x :: _ => [1] ++ bytesOf 2 x.number.toNat
            | [] => [0, 0, 0]) ++
          bytesOf 2 q.ring.nextMark.toNat
        let sessions :=
          (match q.writer with
            | some k => bytesOf 1 k.val ++ [(s.session k).generation]
            | none => [0xFF, 0xFF]) ++
          bytesOf 1 q.waitList.length ++ (q.waitList.flatMap fun k =>
            bytesOf 1 k.val ++ [(s.session k).generation] ++ bytesOf 1 (s.rankOf k)) ++
          bytesOf 1 (allSlots.countP fun k => s.attachedTo k p)
        let k := q.counters
        answered .ok (line ++ store ++ sessions ++
          [k.rxb, k.txb, k.fer, k.per, k.brk, k.una, k.mat, k.deads].flatMap
            fun x => bytesOf 4 x.toNat)) ∧
    (m = .allocationRead → answered .ok
      ((allPorts.map fun p => (s.port p).alloc).flatMap (bytesOf 1) ++
        bytesOf 2 (512 - (allPorts.map fun p => (s.port p).alloc).sum))) ∧
    (m = .settingsRead → answered .ok (bytesOf 6 s.uplink.address.toNat ++
      bytesOf 2 s.uplink.frameType.toNat ++ bytesOf 6 (u.destination.getD 0).toNat ++
      bytesOf 4 u.mask.toNat ++ bytesOf 2 u.holdoff ++ bytesOf 2 s.sessionLimit ++
      bytesOf 2 s.writerLimit ++ [flag s.commissioning])) ∧
    (m = .noticeRead → answered .ok (bytesOf 4 u.mask.toNat ++
      bytesOf 6 (u.destination.getD 0).toNat ++ bytesOf 2 u.holdoff ++ bytesOf 1 u.queue.length ++
      [flag u.overflow, flag u.timer.isSome] ++ timeLeft u.timer ++ bytesOf 2 u.sequence.toNat))

/-- R59, R61: a Station Table write that R59 refuses changes nothing; an accepted one sets its entry,
closes every session of the entry and no other, and ends the wildcard at entry 0; the only session of the
entry leaves the keyboard or the wait list of its port (R65). What is refused beyond R59's list is read as
assumption 23 says. -/
def Obligations.StationWriteClosesItsSessions : Prop :=
  ∀ (s : State) (f : RxFrame) (op : Byte) (w : StationWrite),
    s.takesManage f op (.stationWrite w) →
    (s.settled → ¬ stationAllowed s w →
      exec .stationWrite s = .next (s.afterFrame f [f.answer (some op) .range []])) ∧
    ∀ e : StationId, e.val = w.entry → stationAllowed s w →
      ∃ (x : Station) (t : State), exec .stationWrite s = .next t ∧ x.raw e.val = w ∧
        t.stations = s.stations.set e x ∧
        t.commissioning = (s.commissioning && e != 0) ∧
        t.uplink.replies = s.uplink.replies ++ [f.answer (some op) .ok []] ∧
        ∀ k : SlotId, (t.session k).generation = (s.session k).generation ∧
          ((t.session k).live = none ↔ (s.session k).live = none ∨ (s.session k).ofStation e) ∧
          ∀ p : PortId, s.writersSound → (∀ j : SlotId, (s.session j).ofStation e → j = k) →
            (s.session k).ofStation e →
            (k ∈ (s.port p).waitList → s.leftWaiting t p k ∧ t.notice = s.notice) ∧
            ((s.port p).writer = some k → s.released t p)

/-- R107, R108, R139, R140: Pattern Table and Key-in Table writes: what is refused, and the entry an
accepted write gives, whose own fields are those sent. What is refused beyond their lists is read as
assumption 23 says, and a wildcard byte sent with its flag at 0 as assumption 36. -/
def Obligations.PatternAndKeyinWrites : Prop :=
  (∀ (s : State) (f : RxFrame) (op : Byte) (w : PatternWrite), s.settled →
    s.takesManage f op (.patternWrite w) →
    (¬ patternAllowed w →
      exec .patternWrite s = .next (s.afterFrame f [f.answer (some op) .range []])) ∧
    ∀ i : PatternId, i.val = w.entry → patternAllowed w →
      ∃ y : PatternEntry, exec .patternWrite s =
          .next { s.afterFrame f [f.answer (some op) .ok []] with patterns := s.patterns.set i y } ∧
        (y.pattern = none ↔ w.valid = 0) ∧
        (w.valid = 1 → y.raw i.val = { w with wild := if w.wildFlag = 1 then w.wild else 0 }) ∧
        y.matchCount = 0 ∧
        ∀ p : PortId, y.windows[p] = if w.valid = 1 ∧ inSet w.ports p then some [] else none) ∧
  ∀ (s : State) (f : RxFrame) (op : Byte) (w : KeyinWrite), s.settled →
    s.takesManage f op (.keyinWrite w) →
    let refused (r : Result) : Prop :=
      exec .keyinWrite s = .next (s.afterFrame f [f.answer (some op) r []])
    (16 ≤ w.entry → refused .range) ∧
    ∀ e : KeyinId, e.val = w.entry →
      ((s.keyin e).engaged → refused .inUse) ∧
      ((s.keyin e).engaged = false →
        (¬ keyinAllowed e w → refused .range) ∧
        (keyinAllowed e w →
          let stored := { w with
            preBreak := min 255 w.preBreak, interval := max 1 (min 255 w.interval) }
          ∃ x : KeyinEntry, x.raw e.val = stored ∧
            x.state = (if w.autoArm = 1 then .armed else .idle) ∧ x.lastOutcome = none ∧
            exec .keyinWrite s = .next { s.afterFrame f
                [f.answer (some op) (if stored = w then .ok else .clamped) []] with
              keyins := s.keyins.set e x }))

/-- R128, R131 to R135: a comparator write is evaluated from a last condition of false, and fires
where its condition holds; COUNTER_RESET sets its counter to 0, and the comparator on that counter is
evaluated and may fire: its cause, its action and its report. What is refused beyond R131's list is read
as assumption 23 says. Equality of rate lists, by which STAGE makes a switch or none, is read as assumption
20 says. -/
def Obligations.ComparatorWriteAndCounterReset : Prop :=
  (∀ (s : State) (f : RxFrame) (op : Byte) (w : ComparatorWrite),
    s.takesManage f op (.comparatorWrite w) →
    (s.settled → ¬ comparatorAllowed w →
      exec .comparatorWrite s = .next (s.afterFrame f [f.answer (some op) .range []])) ∧
    ∀ i : ComparatorId, i.val = w.entry → comparatorAllowed w → ∃ x : Comparator, x.raw i.val = w ∧
      let holds := x.method.test ((s.port x.port).counters.get x.counter) x.value
      (s.settled → x.enable = false ∨ holds = false →
        exec .comparatorWrite s = .next { s.afterFrame f [f.answer (some op) .ok []] with
          comparators := s.comparators.set i { x with last := false } }) ∧
      (x.enable → holds →
        ∃ t, exec .comparatorWrite s = .next t ∧
          t.comparators = s.comparators.set i { x with last := true } ∧
          t.uplink.replies = s.uplink.replies ++ [f.answer (some op) .ok []] ∧
          (s.notice.mask.getLsbD 4 → s.notice.queue.length < 32 →
            ∃ n ∈ t.notice.queue, n.cause = .compare ∧ n.port = some x.port ∧
              n.arg = BitVec.ofNat 16 i.val) ∧
          s.fired t i x (s.port x.port))) ∧
  ∀ (s : State) (f : RxFrame) (op : Byte) (n k : Nat), s.takesManage f op (.counterReset n k) →
    (s.settled → (32 ≤ n ∨ 8 ≤ k) →
      exec .counterReset s = .next (s.afterFrame f [f.answer (some op) .range []])) ∧
    ∀ (p : PortId) (c : CounterId), p.val = n → c.code = k →
      ∃ t, exec .counterReset s = .next t ∧
        (t.port p).counters = (s.port p).counters.put c 0 ∧
        t.uplink.replies = s.uplink.replies ++ [f.answer (some op) .ok []] ∧
        (s.comparatorsOff → t.ports = s.ports.set p
          { s.port p with counters := (s.port p).counters.put c 0 } ∧ t.notice = s.notice) ∧
        ∀ i : ComparatorId, s.onlyEnabled i → (s.comparator i).port = p → (s.comparator i).counter = c →
          s.evaluatedAt t i { s.port p with counters := (s.port p).counters.put c 0 }

/-- R3 to R5, R7 to R9, R156: writes of the active and of the staged profile: what R3 refuses, and the
profile an accepted write gives, whose fields are those sent, each timing field at the nearer end of its
range; the marks of the switch or disabling, the emptied match windows, and the aborted key-in entries.
Equality of rate lists is read as assumption 20 says. -/
def Obligations.ProfileWrites : Prop :=
  (∀ (s : State) (f : RxFrame) (op : Byte) (n : Nat) (r : RawProfile),
    s.takesManage f op (.profileWriteActive n r) →
    let answered (x : Result) : State := s.afterFrame f [f.answer (some op) x []]
    (s.settled → 32 ≤ n → exec .profileWriteActive s = .next (answered .range)) ∧
    ∀ p : PortId, p.val = n →
      let q := s.port p
      (s.settled → ¬ profileAllowed True q.alloc r →
        exec .profileWriteActive s = .next (answered .range)) ∧
      (profileAllowed True q.alloc r → ∃ g : Profile, g.raw = profileClamped r ∧
        let result := if profileClamped r = r then Result.ok else .clamped
        (s.settled → g = q.active → exec .profileWriteActive s = .next (answered result)) ∧
        (s.settled → g ≠ q.active → q.state = .disabled → g.enable = false →
          exec .profileWriteActive s = .next ((answered result).withPort p { q with active := g })) ∧
        (g ≠ q.active → (q.state ≠ .disabled ∨ g.enable) →
          let cut := q.pulse ≠ none ∧ (g.enable = false ∨ g.auxA ≠ q.active.auxA)
          let switched := (if cut then q.ring.addMark .pulseEnd 1 else q.ring).addMark .switch 0
          ∃ t, exec .profileWriteActive s = .next t ∧
            (t.port p).active = g ∧ (t.port p).staged = q.staged ∧ (t.port p).hold = q.hold ∧
            t.uplink.replies = s.uplink.replies ++ [f.answer (some op) result []] ∧
            (∀ i : PatternId, ∀ w ∈ (t.patternEntry i).windows[p], w = []) ∧
            (g.enable = false → (t.port p).state = .disabled ∧ (t.port p).queue = [] ∧
              (t.port p).flight = none ∧ (t.port p).pulse = none ∧
              (t.port p).detector.window = .closed ∧
              (s.keyinsIdle → (t.port p).ring = switched) ∧
              (∀ e : KeyinId, (s.keyin e).port = p → (s.keyin e).engaged →
                (t.keyin e).lastOutcome = some .abortedRestart ∧
                (t.keyin e).state = (s.keyin e).restState ∧
                (s.othersIdle [e] → (t.port p).ring =
                  switched.addMark .keyinEnd (BitVec.ofNat 16 (e.val * 256 + 7))))) ∧
            (g.enable → (t.port p).rateFound = false ∧
              (s.keyinsIdle → (t.port p).ring =
                if q.flight = none ∧ g.rateMode = .fixed then
                  switched.addMark .rateSet (BitVec.ofNat 16 (divisorOf g.fixedRate))
                else switched) ∧
              (q.flight ≠ none → (t.port p).state = .switching ∧ (t.port p).flight = q.flight) ∧
              (q.flight = none → g.rateMode = .auto →
                (t.port p).state = .detecting ∧ (t.port p).divisor = q.divisor) ∧
              (q.flight = none → g.rateMode = .fixed →
                (t.port p).state = .live ∧ (t.port p).divisor = divisorOf g.fixedRate))))) ∧
  ∀ (s : State) (f : RxFrame) (op : Byte) (n : Nat) (x : Option RawProfile), s.settled →
    s.takesManage f op (.profileWriteStaged n x) →
    let answered (y : Result) : State := s.afterFrame f [f.answer (some op) y []]
    (32 ≤ n → exec .profileWriteStaged s = .next (answered .range)) ∧
    ∀ p : PortId, p.val = n →
      let q := s.port p
      (x = none →
        exec .profileWriteStaged s = .next ((answered .ok).withPort p { q with staged := none })) ∧
      ∀ r, x = some r →
        (¬ profileAllowed False q.alloc r →
          exec .profileWriteStaged s = .next (answered .range)) ∧
        (profileAllowed False q.alloc r → ∃ g : Profile, g.raw = profileClamped r ∧
          exec .profileWriteStaged s = .next
            ((answered (if profileClamped r = r then .ok else .clamped)).withPort p
              { q with staged := some g }))

/-- R42, R43: a refused ALLOCATE changes nothing; an accepted one empties every ring whose allocation
changes, and no other. -/
def Obligations.AllocateEmptiesTheChangedRings : Prop :=
  ∀ (s : State) (f : RxFrame) (op : Byte) (blocks : List Nat), blocks.length = 32 →
    s.takesManage f op (.allocate blocks) →
    let allowed := (∀ b ∈ blocks, b ≤ 64) ∧ blocks.sum ≤ 512 ∧
      ∀ p : PortId, (s.port p).state ≠ .disabled → blocks[p.val]? ≠ some 0
    (s.settled → ¬ allowed →
      exec .allocate s = .next (s.afterFrame f [f.answer (some op) .range []])) ∧
    (allowed →
      ∃ t, exec .allocate s = .next t ∧
        t.uplink.replies = s.uplink.replies ++ [f.answer (some op) .ok []] ∧
        ∀ (p : PortId) (b : Nat), blocks[p.val]? = some b →
          let q := s.port p
          (b = q.alloc → t.port p = q ∧
            ∀ (k : SlotId) (a : Attachment), (s.session k).attachment = some a → a.port = p →
              (t.session k).attachment.map (fun x => (x.cursor, x.lost, x.nextMark, x.markLoss)) =
                some (a.cursor, a.lost, a.nextMark, a.markLoss)) ∧
          (b ≠ q.alloc →
            t.port p = { q with
              alloc := b
              ring := { head := q.ring.head, held := [], marks := [], nextMark := q.ring.nextMark } } ∧
            ∀ (k : SlotId) (a : Attachment), (s.session k).attachment = some a → a.port = p →
              let missed := markPrecedes a.nextMark q.ring.nextMark
              (t.session k).attachment.map (fun x => (x.cursor, x.lost, x.nextMark, x.markLoss)) =
                some (q.ring.head, satAdd a.lost (q.ring.head - a.cursor).toNat,
                  if missed then q.ring.nextMark else a.nextMark, missed || a.markLoss)))

/-- R178, R82, R161, R165, R166: the seven settings. -/
def Obligations.SettingWrites : Prop :=
  ∀ (s : State) (f : RxFrame) (op : Byte) (m : Manage), s.settled → s.takesManage f op m →
    let answered (r : Result) : State := s.afterFrame f [f.answer (some op) r []]
    let clampedTo (lo hi n : Nat) : Result := if n < lo ∨ hi < n then .clamped else .ok
    (∀ x, m = .stationAddressWrite x →
      ((x.getLsbD 40 = true ∨ x = 0) → exec m.row s = .next (answered .range)) ∧
      (x.getLsbD 40 = false → x ≠ 0 → exec m.row s = .next { answered .ok with
        uplink := { (answered .ok).uplink with address := x } })) ∧
    (∀ n, m = .frameTypeWrite n → n < 65536 →
      (n < 0x0600 → exec m.row s = .next (answered .range)) ∧
      (0x0600 ≤ n → exec m.row s = .next { answered .ok with
        uplink := { (answered .ok).uplink with frameType := BitVec.ofNat 16 n } })) ∧
    (∀ x, m = .noticeDestinationWrite x → exec m.row s = .next { answered .ok with
      notice := { s.notice with destination := if x = 0 then none else some x } }) ∧
    (∀ x, m = .noticeMaskWrite x →
      (2 ^ 11 ≤ x.toNat → exec m.row s = .next (answered .range)) ∧
      (x.toNat < 2 ^ 11 → exec m.row s = .next { answered .ok with
        notice := { s.notice with mask := x } })) ∧
    (∀ n, m = .holdoffWrite n → exec m.row s = .next { answered (clampedTo 0 255 n) with
      notice := { s.notice with holdoff := min 255 n } }) ∧
    (∀ n, m = .sessionIdleLimitWrite n →
      let v := max 10 (min 3600 n)
      ∃ t, exec m.row s = .next t ∧
        t = { answered (clampedTo 10 3600 n) with sessionLimit := v, sessions := t.sessions } ∧
        (v = s.sessionLimit → t.sessions = s.touched f) ∧
        (v ≠ s.sessionLimit → ∀ k : SlotId, (t.session k).live =
          ((answered .ok).session k).live.map fun l => { l with idle := v * 1000 })) ∧
    ∀ n, m = .writerIdleLimitWrite n →
      let v := min 3600 n
      ∃ t, exec m.row s = .next t ∧
        t = { answered (clampedTo 0 3600 n) with writerLimit := v, sessions := t.sessions } ∧
        (v = s.writerLimit → t.sessions = s.touched f) ∧
        (v ≠ s.writerLimit → ∀ k : SlotId, (t.session k).attachment =
          (s.session k).attachment.map fun a =>
            if s.isWriter k then { a with writerIdle := if v = 0 then none else some (v * 1000) } else a)

/-- R26, R156: PORT_RESTART of a port in DISABLED, and of any other. The order of the start step
within it is assumption 13. -/
def Obligations.PortRestartServed : Prop :=
  ∀ (s : State) (f : RxFrame) (op : Byte) (n : Nat), s.takesManage f op (.portRestart n) →
    (s.settled → 32 ≤ n →
      exec .portRestart s = .next (s.afterFrame f [f.answer (some op) .range []])) ∧
    ∀ p : PortId, p.val = n →
      let q := s.port p
      ∃ t, exec .portRestart s = .next t ∧
        t.uplink.replies = s.uplink.replies ++ [f.answer (some op) .ok []] ∧
        ((t.port p).hold = false ∧ (t.port p).active = q.active ∧ (t.port p).staged = q.staged ∧
          (t.port p).writer = q.writer) ∧
        (∀ i : PatternId, ∀ w ∈ (t.patternEntry i).windows[p], w = []) ∧
        (q.state = .disabled → t.ports = s.ports.set p { q with queue := [], hold := false } ∧
          t.keyins = s.keyins ∧ t.notice = s.notice) ∧
        (q.state ≠ .disabled →
          (t.port p).queue = [] ∧ (t.port p).pulse = none ∧ (t.port p).rateFound = false ∧
          (q.flight ≠ none → (t.port p).state = .switching) ∧
          (q.flight = none → (t.port p).state =
            match q.active.rateMode with
            | .auto => .detecting
            | .fixed => .live) ∧
          (∀ e : KeyinId, (s.keyin e).port = p → (s.keyin e).engaged →
            (t.keyin e).lastOutcome = some .abortedRestart) ∧
          (s.keyinsIdle → q.pulse = none → q.active.rateMode = .auto →
            (t.port p).ring = q.ring.addMark .switch 2 ∧ t.notice = s.notice))

/-! ### The image and the restarts -/

/-- R183, R185: SAVE copies the present tables, and ends in an image whose length and sum are those of its
records, which start-up finds good and reads back, or in none. The order and form of the records, and what
a failed save leaves, are the model's (assumptions 26, 27 and 28). -/
def Obligations.SaveWritesTheImage : Prop :=
  (∀ (s : State) (f : RxFrame) (op : Byte), s.settled → s.takesManage f op .save →
    let hidden (e : StationId) : Station :=
      if s.commissioning ∧ e = 0 then Station.invalid else s.station e
    exec .save s = .next { s.afterFrame f [f.answer (some op) .ok []] with
      saving := some (
        [.settings s.rawSettings, .allocation (allPorts.map fun p => (s.port p).alloc)] ++
        allStations.map (fun e => .station ((hidden e).raw e.val)) ++
        allPorts.map (fun p => .profile p.val (s.port p).active.raw) ++
        allPatterns.map (fun i => .pattern ((s.patternEntry i).raw i.val)) ++
        allKeyins.map (fun e => .keyin ((s.keyin e).raw e.val)) ++
        allComparators.map fun i => .comparator ((s.comparator i).raw i.val)) }) ∧
  (∀ (s : State) (records : List ImageRecord), s.saving = some records →
    (∃ m : ConfigMemory, exec .saveDone s = .next { s with
        saving := none, memory := m, notice := (raise .saveDone none 0 s).notice } ∧
      (m.answers = true ∧ m.marker = true ∧ m.length = (imageBytes records).length ∧
        m.sum = byteSum (imageBytes records) ∧ m.records = records) ∧
      imageGood m = true ∧ imageRecordsOf m = records) ∧
    exec .saveFailed s = .next { s with
      saving := none
      memory := { s.memory with marker := false }
      notice := (raise .saveFailed none 0 s).notice }) ∧
  ∀ s : State, s.saving = none → exec .saveDone s = .next s ∧ exec .saveFailed s = .next s

/-- R186: what every warm restart leaves. The order of the ports is assumption 13. -/
def Obligations.WarmRestartLeaves : Prop :=
  ∀ (s : State) (f : RxFrame) (op : Byte), s.takesManage f op .warmRestart →
    ∃ t, exec .warmRestart s = .next t ∧
      t.uplink = { s.uplink with
        rxQueue := s.uplink.rxQueue.tail
        counters := .zero
        roundRobin := 63
        replies := s.uplink.replies ++ [f.answer (some op) .ok []] } ∧
      (∀ k : SlotId, t.session k = ⟨(s.session k).generation, none⟩) ∧
      (t.notice.sequence = 0 ∧ t.notice.timer = none) ∧
      (∀ i : ComparatorId, t.comparator i = { s.comparator i with last := false }) ∧
      (∀ i : PatternId, (t.patternEntry i).matchCount = 0 ∧
        ∀ p : PortId, (t.patternEntry i).windows[p] =
          if ((s.patternEntry i).pattern.map fun x => inSet x.ports p) = some true then some []
          else none) ∧
      (∀ e : KeyinId, (s.keyin e).engaged → (t.keyin e).lastOutcome = some .abortedRestart) ∧
      (s.writersSound → ∀ p : PortId, (t.port p).writer = none ∧ (t.port p).waitList = []) ∧
      ∀ p : PortId,
        let q := s.port p
        ((t.port p).queue = [] ∧ (t.port p).hold = false ∧ (t.port p).pulse = none ∧
          (t.port p).counters = .zero ∧ (t.port p).ring.head = 0 ∧ (t.port p).ring.held = [] ∧
          (t.port p).active = q.active ∧ (t.port p).staged = q.staged) ∧
        (q.state = .disabled → (t.port p).state = .disabled ∧ (t.port p).ring = ⟨0, [], [], 0⟩) ∧
        (q.state ≠ .disabled → (t.port p).ring.marks.head? = some ⟨0, 0, .switch, 3⟩ ∧
          (t.port p).state = if q.flight ≠ none then .switching else
            match q.active.rateMode with
            | .auto => .detecting
            | .fixed => .live)

/-- R61, R183 to R185: cold start with no good image, and what it leaves with a good one. The memory is one
newly fitted, or the one the part left, with no marker where a save had made its first write (assumptions
12 and 27). The sum over a length past the end of the memory is assumption 41, and bytes that name no kind
of record are assumption 44. The input pins' levels and the waiting commands are kept (assumption 31), a
record's form is assumption 26, and the values no rule states are assumption 32. -/
def Obligations.ColdResetStartsThePart : Prop :=
  ∀ (s : State) (x : ColdInputs),
    let m : ConfigMemory := match x.fitted with
      | some m => m
      | none =>
        if s.saving ≠ none ∧ x.saveStarted then { s.memory with marker := false } else s.memory
    let commissioned : Vector Station 16 :=
      if x.commission then State.reset.stations.set 0 Station.wildcard else State.reset.stations
    let sums := byteSum ((imageBytes m.records ++ m.rest).take m.length) = m.sum
    (m.answers = false ∨ m.marker = false ∨ ¬ sums →
      ∃ t, exec (.coldReset x) s = .next t ∧
        t = { State.reset with
          ports := t.ports
          stations := commissioned
          commissioning := x.commission
          notice := { NoticeUnit.reset with queue :=
            [⟨.imageFault, none, if m.answers ∧ m.marker then 2 else 1, 0, 1, none, none⟩] }
          uplink := { Uplink.reset x.straps with receiveOpen := true }
          memory := m
          pending := s.pending } ∧
        ∀ p : PortId, t.port p = Port.reset (s.port p).rxMark (s.port p).auxBHigh) ∧
    (m.answers = true → m.marker = true → sums →
      ∃ t, exec (.coldReset x) s = .next t ∧
        (∀ k : SlotId, t.session k = ⟨0, none⟩) ∧
        t.commissioning = x.commission ∧ (x.commission → t.station 0 = Station.wildcard) ∧
        (t.uplink.receiveOpen = true ∧ t.uplink.rxQueue = [] ∧ t.uplink.replies = [] ∧
          t.saving = none ∧ t.memory = m) ∧
        (∀ p : PortId, (t.port p).counters = .zero ∧ (t.port p).ring.held = [] ∧
          ((t.port p).state = .disabled ↔ (t.port p).active.enable = false)) ∧
        ∀ r : RawSettings, imageRecordsOf m = [.settings r] →
          t.uplink.address =
            (if r.address.getLsbD 40 = false ∧ r.address ≠ 0 then r.address
             else defaultAddress x.straps) ∧
          t.notice.destination = (if r.destination = 0 then none else some r.destination) ∧
          t.notice.holdoff = min 255 r.holdoff ∧
          t.sessionLimit = max 10 (min 3600 r.sessionLimit) ∧
          t.writerLimit = min 3600 r.writerLimit)
end

