-- ==== Sys2Proof/Laws/State.lean ====
section
/-! SUPPORT. What every update of the state leaves as it was: one lemma for each update and each
field, and what the reads of the tables give after an update of one row. -/

namespace Sys2Proof.Machine

/-! ### modPort -/

@[simp] theorem modPort_sessions (s : State) (p : PortId) (f : Port → Port) :
    (s.modPort p f).sessions = s.sessions := rfl
@[simp] theorem modPort_stations (s : State) (p : PortId) (f : Port → Port) :
    (s.modPort p f).stations = s.stations := rfl
@[simp] theorem modPort_commissioning (s : State) (p : PortId) (f : Port → Port) :
    (s.modPort p f).commissioning = s.commissioning := rfl
@[simp] theorem modPort_patterns (s : State) (p : PortId) (f : Port → Port) :
    (s.modPort p f).patterns = s.patterns := rfl
@[simp] theorem modPort_comparators (s : State) (p : PortId) (f : Port → Port) :
    (s.modPort p f).comparators = s.comparators := rfl
@[simp] theorem modPort_keyins (s : State) (p : PortId) (f : Port → Port) :
    (s.modPort p f).keyins = s.keyins := rfl
@[simp] theorem modPort_notice (s : State) (p : PortId) (f : Port → Port) :
    (s.modPort p f).notice = s.notice := rfl
@[simp] theorem modPort_uplink (s : State) (p : PortId) (f : Port → Port) :
    (s.modPort p f).uplink = s.uplink := rfl
@[simp] theorem modPort_sessionLimit (s : State) (p : PortId) (f : Port → Port) :
    (s.modPort p f).sessionLimit = s.sessionLimit := rfl
@[simp] theorem modPort_writerLimit (s : State) (p : PortId) (f : Port → Port) :
    (s.modPort p f).writerLimit = s.writerLimit := rfl
@[simp] theorem modPort_saving (s : State) (p : PortId) (f : Port → Port) :
    (s.modPort p f).saving = s.saving := rfl
@[simp] theorem modPort_memory (s : State) (p : PortId) (f : Port → Port) :
    (s.modPort p f).memory = s.memory := rfl
@[simp] theorem modPort_pending (s : State) (p : PortId) (f : Port → Port) :
    (s.modPort p f).pending = s.pending := rfl

/-! ### modSession -/

@[simp] theorem modSession_ports (s : State) (k : SlotId) (f : Session → Session) :
    (s.modSession k f).ports = s.ports := rfl
@[simp] theorem modSession_stations (s : State) (k : SlotId) (f : Session → Session) :
    (s.modSession k f).stations = s.stations := rfl
@[simp] theorem modSession_commissioning (s : State) (k : SlotId) (f : Session → Session) :
    (s.modSession k f).commissioning = s.commissioning := rfl
@[simp] theorem modSession_patterns (s : State) (k : SlotId) (f : Session → Session) :
    (s.modSession k f).patterns = s.patterns := rfl
@[simp] theorem modSession_comparators (s : State) (k : SlotId) (f : Session → Session) :
    (s.modSession k f).comparators = s.comparators := rfl
@[simp] theorem modSession_keyins (s : State) (k : SlotId) (f : Session → Session) :
    (s.modSession k f).keyins = s.keyins := rfl
@[simp] theorem modSession_notice (s : State) (k : SlotId) (f : Session → Session) :
    (s.modSession k f).notice = s.notice := rfl
@[simp] theorem modSession_uplink (s : State) (k : SlotId) (f : Session → Session) :
    (s.modSession k f).uplink = s.uplink := rfl
@[simp] theorem modSession_sessionLimit (s : State) (k : SlotId) (f : Session → Session) :
    (s.modSession k f).sessionLimit = s.sessionLimit := rfl
@[simp] theorem modSession_writerLimit (s : State) (k : SlotId) (f : Session → Session) :
    (s.modSession k f).writerLimit = s.writerLimit := rfl
@[simp] theorem modSession_saving (s : State) (k : SlotId) (f : Session → Session) :
    (s.modSession k f).saving = s.saving := rfl
@[simp] theorem modSession_memory (s : State) (k : SlotId) (f : Session → Session) :
    (s.modSession k f).memory = s.memory := rfl
@[simp] theorem modSession_pending (s : State) (k : SlotId) (f : Session → Session) :
    (s.modSession k f).pending = s.pending := rfl

/-! ### modAttachment -/

@[simp] theorem modAttachment_ports (s : State) (k : SlotId) (f : Attachment → Attachment) :
    (s.modAttachment k f).ports = s.ports := rfl
@[simp] theorem modAttachment_stations (s : State) (k : SlotId) (f : Attachment → Attachment) :
    (s.modAttachment k f).stations = s.stations := rfl
@[simp] theorem modAttachment_commissioning (s : State) (k : SlotId) (f : Attachment → Attachment) :
    (s.modAttachment k f).commissioning = s.commissioning := rfl
@[simp] theorem modAttachment_patterns (s : State) (k : SlotId) (f : Attachment → Attachment) :
    (s.modAttachment k f).patterns = s.patterns := rfl
@[simp] theorem modAttachment_comparators (s : State) (k : SlotId) (f : Attachment → Attachment) :
    (s.modAttachment k f).comparators = s.comparators := rfl
@[simp] theorem modAttachment_keyins (s : State) (k : SlotId) (f : Attachment → Attachment) :
    (s.modAttachment k f).keyins = s.keyins := rfl
@[simp] theorem modAttachment_notice (s : State) (k : SlotId) (f : Attachment → Attachment) :
    (s.modAttachment k f).notice = s.notice := rfl
@[simp] theorem modAttachment_uplink (s : State) (k : SlotId) (f : Attachment → Attachment) :
    (s.modAttachment k f).uplink = s.uplink := rfl
@[simp] theorem modAttachment_sessionLimit (s : State) (k : SlotId) (f : Attachment → Attachment) :
    (s.modAttachment k f).sessionLimit = s.sessionLimit := rfl
@[simp] theorem modAttachment_writerLimit (s : State) (k : SlotId) (f : Attachment → Attachment) :
    (s.modAttachment k f).writerLimit = s.writerLimit := rfl
@[simp] theorem modAttachment_saving (s : State) (k : SlotId) (f : Attachment → Attachment) :
    (s.modAttachment k f).saving = s.saving := rfl
@[simp] theorem modAttachment_memory (s : State) (k : SlotId) (f : Attachment → Attachment) :
    (s.modAttachment k f).memory = s.memory := rfl
@[simp] theorem modAttachment_pending (s : State) (k : SlotId) (f : Attachment → Attachment) :
    (s.modAttachment k f).pending = s.pending := rfl

/-! ### mapAttached -/

@[simp] theorem mapAttached_ports (s : State) (p : PortId) (f : Attachment → Attachment) :
    (s.mapAttached p f).ports = s.ports := rfl
@[simp] theorem mapAttached_stations (s : State) (p : PortId) (f : Attachment → Attachment) :
    (s.mapAttached p f).stations = s.stations := rfl
@[simp] theorem mapAttached_commissioning (s : State) (p : PortId) (f : Attachment → Attachment) :
    (s.mapAttached p f).commissioning = s.commissioning := rfl
@[simp] theorem mapAttached_patterns (s : State) (p : PortId) (f : Attachment → Attachment) :
    (s.mapAttached p f).patterns = s.patterns := rfl
@[simp] theorem mapAttached_comparators (s : State) (p : PortId) (f : Attachment → Attachment) :
    (s.mapAttached p f).comparators = s.comparators := rfl
@[simp] theorem mapAttached_keyins (s : State) (p : PortId) (f : Attachment → Attachment) :
    (s.mapAttached p f).keyins = s.keyins := rfl
@[simp] theorem mapAttached_notice (s : State) (p : PortId) (f : Attachment → Attachment) :
    (s.mapAttached p f).notice = s.notice := rfl
@[simp] theorem mapAttached_uplink (s : State) (p : PortId) (f : Attachment → Attachment) :
    (s.mapAttached p f).uplink = s.uplink := rfl
@[simp] theorem mapAttached_sessionLimit (s : State) (p : PortId) (f : Attachment → Attachment) :
    (s.mapAttached p f).sessionLimit = s.sessionLimit := rfl
@[simp] theorem mapAttached_writerLimit (s : State) (p : PortId) (f : Attachment → Attachment) :
    (s.mapAttached p f).writerLimit = s.writerLimit := rfl
@[simp] theorem mapAttached_saving (s : State) (p : PortId) (f : Attachment → Attachment) :
    (s.mapAttached p f).saving = s.saving := rfl
@[simp] theorem mapAttached_memory (s : State) (p : PortId) (f : Attachment → Attachment) :
    (s.mapAttached p f).memory = s.memory := rfl
@[simp] theorem mapAttached_pending (s : State) (p : PortId) (f : Attachment → Attachment) :
    (s.mapAttached p f).pending = s.pending := rfl

/-! ### modPattern -/

@[simp] theorem modPattern_ports (s : State) (i : PatternId) (f : PatternEntry → PatternEntry) :
    (s.modPattern i f).ports = s.ports := rfl
@[simp] theorem modPattern_sessions (s : State) (i : PatternId) (f : PatternEntry → PatternEntry) :
    (s.modPattern i f).sessions = s.sessions := rfl
@[simp] theorem modPattern_stations (s : State) (i : PatternId) (f : PatternEntry → PatternEntry) :
    (s.modPattern i f).stations = s.stations := rfl
@[simp] theorem modPattern_commissioning (s : State) (i : PatternId) (f : PatternEntry → PatternEntry) :
    (s.modPattern i f).commissioning = s.commissioning := rfl
@[simp] theorem modPattern_comparators (s : State) (i : PatternId) (f : PatternEntry → PatternEntry) :
    (s.modPattern i f).comparators = s.comparators := rfl
@[simp] theorem modPattern_keyins (s : State) (i : PatternId) (f : PatternEntry → PatternEntry) :
    (s.modPattern i f).keyins = s.keyins := rfl
@[simp] theorem modPattern_notice (s : State) (i : PatternId) (f : PatternEntry → PatternEntry) :
    (s.modPattern i f).notice = s.notice := rfl
@[simp] theorem modPattern_uplink (s : State) (i : PatternId) (f : PatternEntry → PatternEntry) :
    (s.modPattern i f).uplink = s.uplink := rfl
@[simp] theorem modPattern_sessionLimit (s : State) (i : PatternId) (f : PatternEntry → PatternEntry) :
    (s.modPattern i f).sessionLimit = s.sessionLimit := rfl
@[simp] theorem modPattern_writerLimit (s : State) (i : PatternId) (f : PatternEntry → PatternEntry) :
    (s.modPattern i f).writerLimit = s.writerLimit := rfl
@[simp] theorem modPattern_saving (s : State) (i : PatternId) (f : PatternEntry → PatternEntry) :
    (s.modPattern i f).saving = s.saving := rfl
@[simp] theorem modPattern_memory (s : State) (i : PatternId) (f : PatternEntry → PatternEntry) :
    (s.modPattern i f).memory = s.memory := rfl
@[simp] theorem modPattern_pending (s : State) (i : PatternId) (f : PatternEntry → PatternEntry) :
    (s.modPattern i f).pending = s.pending := rfl

/-! ### modComparator -/

@[simp] theorem modComparator_ports (s : State) (i : ComparatorId) (f : Comparator → Comparator) :
    (s.modComparator i f).ports = s.ports := rfl
@[simp] theorem modComparator_sessions (s : State) (i : ComparatorId) (f : Comparator → Comparator) :
    (s.modComparator i f).sessions = s.sessions := rfl
@[simp] theorem modComparator_stations (s : State) (i : ComparatorId) (f : Comparator → Comparator) :
    (s.modComparator i f).stations = s.stations := rfl
@[simp] theorem modComparator_commissioning (s : State) (i : ComparatorId) (f : Comparator → Comparator) :
    (s.modComparator i f).commissioning = s.commissioning := rfl
@[simp] theorem modComparator_patterns (s : State) (i : ComparatorId) (f : Comparator → Comparator) :
    (s.modComparator i f).patterns = s.patterns := rfl
@[simp] theorem modComparator_keyins (s : State) (i : ComparatorId) (f : Comparator → Comparator) :
    (s.modComparator i f).keyins = s.keyins := rfl
@[simp] theorem modComparator_notice (s : State) (i : ComparatorId) (f : Comparator → Comparator) :
    (s.modComparator i f).notice = s.notice := rfl
@[simp] theorem modComparator_uplink (s : State) (i : ComparatorId) (f : Comparator → Comparator) :
    (s.modComparator i f).uplink = s.uplink := rfl
@[simp] theorem modComparator_sessionLimit (s : State) (i : ComparatorId) (f : Comparator → Comparator) :
    (s.modComparator i f).sessionLimit = s.sessionLimit := rfl
@[simp] theorem modComparator_writerLimit (s : State) (i : ComparatorId) (f : Comparator → Comparator) :
    (s.modComparator i f).writerLimit = s.writerLimit := rfl
@[simp] theorem modComparator_saving (s : State) (i : ComparatorId) (f : Comparator → Comparator) :
    (s.modComparator i f).saving = s.saving := rfl
@[simp] theorem modComparator_memory (s : State) (i : ComparatorId) (f : Comparator → Comparator) :
    (s.modComparator i f).memory = s.memory := rfl
@[simp] theorem modComparator_pending (s : State) (i : ComparatorId) (f : Comparator → Comparator) :
    (s.modComparator i f).pending = s.pending := rfl

/-! ### modKeyin -/

@[simp] theorem modKeyin_ports (s : State) (e : KeyinId) (f : KeyinEntry → KeyinEntry) :
    (s.modKeyin e f).ports = s.ports := rfl
@[simp] theorem modKeyin_sessions (s : State) (e : KeyinId) (f : KeyinEntry → KeyinEntry) :
    (s.modKeyin e f).sessions = s.sessions := rfl
@[simp] theorem modKeyin_stations (s : State) (e : KeyinId) (f : KeyinEntry → KeyinEntry) :
    (s.modKeyin e f).stations = s.stations := rfl
@[simp] theorem modKeyin_commissioning (s : State) (e : KeyinId) (f : KeyinEntry → KeyinEntry) :
    (s.modKeyin e f).commissioning = s.commissioning := rfl
@[simp] theorem modKeyin_patterns (s : State) (e : KeyinId) (f : KeyinEntry → KeyinEntry) :
    (s.modKeyin e f).patterns = s.patterns := rfl
@[simp] theorem modKeyin_comparators (s : State) (e : KeyinId) (f : KeyinEntry → KeyinEntry) :
    (s.modKeyin e f).comparators = s.comparators := rfl
@[simp] theorem modKeyin_notice (s : State) (e : KeyinId) (f : KeyinEntry → KeyinEntry) :
    (s.modKeyin e f).notice = s.notice := rfl
@[simp] theorem modKeyin_uplink (s : State) (e : KeyinId) (f : KeyinEntry → KeyinEntry) :
    (s.modKeyin e f).uplink = s.uplink := rfl
@[simp] theorem modKeyin_sessionLimit (s : State) (e : KeyinId) (f : KeyinEntry → KeyinEntry) :
    (s.modKeyin e f).sessionLimit = s.sessionLimit := rfl
@[simp] theorem modKeyin_writerLimit (s : State) (e : KeyinId) (f : KeyinEntry → KeyinEntry) :
    (s.modKeyin e f).writerLimit = s.writerLimit := rfl
@[simp] theorem modKeyin_saving (s : State) (e : KeyinId) (f : KeyinEntry → KeyinEntry) :
    (s.modKeyin e f).saving = s.saving := rfl
@[simp] theorem modKeyin_memory (s : State) (e : KeyinId) (f : KeyinEntry → KeyinEntry) :
    (s.modKeyin e f).memory = s.memory := rfl
@[simp] theorem modKeyin_pending (s : State) (e : KeyinId) (f : KeyinEntry → KeyinEntry) :
    (s.modKeyin e f).pending = s.pending := rfl

/-! ### setRing -/

@[simp] theorem setRing_sessions (s : State) (p : PortId) (r : Ring) :
    (s.setRing p r).sessions = s.sessions := rfl
@[simp] theorem setRing_stations (s : State) (p : PortId) (r : Ring) :
    (s.setRing p r).stations = s.stations := rfl
@[simp] theorem setRing_commissioning (s : State) (p : PortId) (r : Ring) :
    (s.setRing p r).commissioning = s.commissioning := rfl
@[simp] theorem setRing_patterns (s : State) (p : PortId) (r : Ring) :
    (s.setRing p r).patterns = s.patterns := rfl
@[simp] theorem setRing_comparators (s : State) (p : PortId) (r : Ring) :
    (s.setRing p r).comparators = s.comparators := rfl
@[simp] theorem setRing_keyins (s : State) (p : PortId) (r : Ring) :
    (s.setRing p r).keyins = s.keyins := rfl
@[simp] theorem setRing_notice (s : State) (p : PortId) (r : Ring) :
    (s.setRing p r).notice = s.notice := rfl
@[simp] theorem setRing_uplink (s : State) (p : PortId) (r : Ring) :
    (s.setRing p r).uplink = s.uplink := rfl
@[simp] theorem setRing_sessionLimit (s : State) (p : PortId) (r : Ring) :
    (s.setRing p r).sessionLimit = s.sessionLimit := rfl
@[simp] theorem setRing_writerLimit (s : State) (p : PortId) (r : Ring) :
    (s.setRing p r).writerLimit = s.writerLimit := rfl
@[simp] theorem setRing_saving (s : State) (p : PortId) (r : Ring) :
    (s.setRing p r).saving = s.saving := rfl
@[simp] theorem setRing_memory (s : State) (p : PortId) (r : Ring) :
    (s.setRing p r).memory = s.memory := rfl
@[simp] theorem setRing_pending (s : State) (p : PortId) (r : Ring) :
    (s.setRing p r).pending = s.pending := rfl

/-! ### countUplink -/

@[simp] theorem countUplink_ports (s : State) (f : UplinkCounters → UplinkCounters) :
    (s.countUplink f).ports = s.ports := rfl
@[simp] theorem countUplink_sessions (s : State) (f : UplinkCounters → UplinkCounters) :
    (s.countUplink f).sessions = s.sessions := rfl
@[simp] theorem countUplink_stations (s : State) (f : UplinkCounters → UplinkCounters) :
    (s.countUplink f).stations = s.stations := rfl
@[simp] theorem countUplink_commissioning (s : State) (f : UplinkCounters → UplinkCounters) :
    (s.countUplink f).commissioning = s.commissioning := rfl
@[simp] theorem countUplink_patterns (s : State) (f : UplinkCounters → UplinkCounters) :
    (s.countUplink f).patterns = s.patterns := rfl
@[simp] theorem countUplink_comparators (s : State) (f : UplinkCounters → UplinkCounters) :
    (s.countUplink f).comparators = s.comparators := rfl
@[simp] theorem countUplink_keyins (s : State) (f : UplinkCounters → UplinkCounters) :
    (s.countUplink f).keyins = s.keyins := rfl
@[simp] theorem countUplink_notice (s : State) (f : UplinkCounters → UplinkCounters) :
    (s.countUplink f).notice = s.notice := rfl
@[simp] theorem countUplink_sessionLimit (s : State) (f : UplinkCounters → UplinkCounters) :
    (s.countUplink f).sessionLimit = s.sessionLimit := rfl
@[simp] theorem countUplink_writerLimit (s : State) (f : UplinkCounters → UplinkCounters) :
    (s.countUplink f).writerLimit = s.writerLimit := rfl
@[simp] theorem countUplink_saving (s : State) (f : UplinkCounters → UplinkCounters) :
    (s.countUplink f).saving = s.saving := rfl
@[simp] theorem countUplink_memory (s : State) (f : UplinkCounters → UplinkCounters) :
    (s.countUplink f).memory = s.memory := rfl
@[simp] theorem countUplink_pending (s : State) (f : UplinkCounters → UplinkCounters) :
    (s.countUplink f).pending = s.pending := rfl

/-! ### reply -/

@[simp] theorem reply_ports (s : State) (c : Ctx) (r : Result) (vs : List Byte) :
    (reply c r vs s).ports = s.ports := rfl
@[simp] theorem reply_sessions (s : State) (c : Ctx) (r : Result) (vs : List Byte) :
    (reply c r vs s).sessions = s.sessions := rfl
@[simp] theorem reply_stations (s : State) (c : Ctx) (r : Result) (vs : List Byte) :
    (reply c r vs s).stations = s.stations := rfl
@[simp] theorem reply_commissioning (s : State) (c : Ctx) (r : Result) (vs : List Byte) :
    (reply c r vs s).commissioning = s.commissioning := rfl
@[simp] theorem reply_patterns (s : State) (c : Ctx) (r : Result) (vs : List Byte) :
    (reply c r vs s).patterns = s.patterns := rfl
@[simp] theorem reply_comparators (s : State) (c : Ctx) (r : Result) (vs : List Byte) :
    (reply c r vs s).comparators = s.comparators := rfl
@[simp] theorem reply_keyins (s : State) (c : Ctx) (r : Result) (vs : List Byte) :
    (reply c r vs s).keyins = s.keyins := rfl
@[simp] theorem reply_notice (s : State) (c : Ctx) (r : Result) (vs : List Byte) :
    (reply c r vs s).notice = s.notice := rfl
@[simp] theorem reply_sessionLimit (s : State) (c : Ctx) (r : Result) (vs : List Byte) :
    (reply c r vs s).sessionLimit = s.sessionLimit := rfl
@[simp] theorem reply_writerLimit (s : State) (c : Ctx) (r : Result) (vs : List Byte) :
    (reply c r vs s).writerLimit = s.writerLimit := rfl
@[simp] theorem reply_saving (s : State) (c : Ctx) (r : Result) (vs : List Byte) :
    (reply c r vs s).saving = s.saving := rfl
@[simp] theorem reply_memory (s : State) (c : Ctx) (r : Result) (vs : List Byte) :
    (reply c r vs s).memory = s.memory := rfl
@[simp] theorem reply_pending (s : State) (c : Ctx) (r : Result) (vs : List Byte) :
    (reply c r vs s).pending = s.pending := rfl

/-! ### removeFrame -/

@[simp] theorem removeFrame_ports (s : State) :
    (removeFrame s).ports = s.ports := rfl
@[simp] theorem removeFrame_sessions (s : State) :
    (removeFrame s).sessions = s.sessions := rfl
@[simp] theorem removeFrame_stations (s : State) :
    (removeFrame s).stations = s.stations := rfl
@[simp] theorem removeFrame_commissioning (s : State) :
    (removeFrame s).commissioning = s.commissioning := rfl
@[simp] theorem removeFrame_patterns (s : State) :
    (removeFrame s).patterns = s.patterns := rfl
@[simp] theorem removeFrame_comparators (s : State) :
    (removeFrame s).comparators = s.comparators := rfl
@[simp] theorem removeFrame_keyins (s : State) :
    (removeFrame s).keyins = s.keyins := rfl
@[simp] theorem removeFrame_notice (s : State) :
    (removeFrame s).notice = s.notice := rfl
@[simp] theorem removeFrame_sessionLimit (s : State) :
    (removeFrame s).sessionLimit = s.sessionLimit := rfl
@[simp] theorem removeFrame_writerLimit (s : State) :
    (removeFrame s).writerLimit = s.writerLimit := rfl
@[simp] theorem removeFrame_saving (s : State) :
    (removeFrame s).saving = s.saving := rfl
@[simp] theorem removeFrame_memory (s : State) :
    (removeFrame s).memory = s.memory := rfl
@[simp] theorem removeFrame_pending (s : State) :
    (removeFrame s).pending = s.pending := rfl

/-! ### clearWindows -/

@[simp] theorem clearWindows_ports (s : State) (p : PortId) :
    (clearWindows p s).ports = s.ports := rfl
@[simp] theorem clearWindows_sessions (s : State) (p : PortId) :
    (clearWindows p s).sessions = s.sessions := rfl
@[simp] theorem clearWindows_stations (s : State) (p : PortId) :
    (clearWindows p s).stations = s.stations := rfl
@[simp] theorem clearWindows_commissioning (s : State) (p : PortId) :
    (clearWindows p s).commissioning = s.commissioning := rfl
@[simp] theorem clearWindows_comparators (s : State) (p : PortId) :
    (clearWindows p s).comparators = s.comparators := rfl
@[simp] theorem clearWindows_keyins (s : State) (p : PortId) :
    (clearWindows p s).keyins = s.keyins := rfl
@[simp] theorem clearWindows_notice (s : State) (p : PortId) :
    (clearWindows p s).notice = s.notice := rfl
@[simp] theorem clearWindows_uplink (s : State) (p : PortId) :
    (clearWindows p s).uplink = s.uplink := rfl
@[simp] theorem clearWindows_sessionLimit (s : State) (p : PortId) :
    (clearWindows p s).sessionLimit = s.sessionLimit := rfl
@[simp] theorem clearWindows_writerLimit (s : State) (p : PortId) :
    (clearWindows p s).writerLimit = s.writerLimit := rfl
@[simp] theorem clearWindows_saving (s : State) (p : PortId) :
    (clearWindows p s).saving = s.saving := rfl
@[simp] theorem clearWindows_memory (s : State) (p : PortId) :
    (clearWindows p s).memory = s.memory := rfl
@[simp] theorem clearWindows_pending (s : State) (p : PortId) :
    (clearWindows p s).pending = s.pending := rfl

/-! ### pushByte -/

@[simp] theorem pushByte_ports (s : State) (p : PortId) (b : Byte) :
    (s.pushByte p b).ports = s.ports := rfl
@[simp] theorem pushByte_sessions (s : State) (p : PortId) (b : Byte) :
    (s.pushByte p b).sessions = s.sessions := rfl
@[simp] theorem pushByte_stations (s : State) (p : PortId) (b : Byte) :
    (s.pushByte p b).stations = s.stations := rfl
@[simp] theorem pushByte_commissioning (s : State) (p : PortId) (b : Byte) :
    (s.pushByte p b).commissioning = s.commissioning := rfl
@[simp] theorem pushByte_comparators (s : State) (p : PortId) (b : Byte) :
    (s.pushByte p b).comparators = s.comparators := rfl
@[simp] theorem pushByte_keyins (s : State) (p : PortId) (b : Byte) :
    (s.pushByte p b).keyins = s.keyins := rfl
@[simp] theorem pushByte_notice (s : State) (p : PortId) (b : Byte) :
    (s.pushByte p b).notice = s.notice := rfl
@[simp] theorem pushByte_uplink (s : State) (p : PortId) (b : Byte) :
    (s.pushByte p b).uplink = s.uplink := rfl
@[simp] theorem pushByte_sessionLimit (s : State) (p : PortId) (b : Byte) :
    (s.pushByte p b).sessionLimit = s.sessionLimit := rfl
@[simp] theorem pushByte_writerLimit (s : State) (p : PortId) (b : Byte) :
    (s.pushByte p b).writerLimit = s.writerLimit := rfl
@[simp] theorem pushByte_saving (s : State) (p : PortId) (b : Byte) :
    (s.pushByte p b).saving = s.saving := rfl
@[simp] theorem pushByte_memory (s : State) (p : PortId) (b : Byte) :
    (s.pushByte p b).memory = s.memory := rfl
@[simp] theorem pushByte_pending (s : State) (p : PortId) (b : Byte) :
    (s.pushByte p b).pending = s.pending := rfl

/-! ### evaluateAll -/

@[simp] theorem evaluateAll_ports (s : State) (p : PortId) (ev : CounterEvent) :
    (s.evaluateAll p ev).ports = s.ports := rfl
@[simp] theorem evaluateAll_sessions (s : State) (p : PortId) (ev : CounterEvent) :
    (s.evaluateAll p ev).sessions = s.sessions := rfl
@[simp] theorem evaluateAll_stations (s : State) (p : PortId) (ev : CounterEvent) :
    (s.evaluateAll p ev).stations = s.stations := rfl
@[simp] theorem evaluateAll_commissioning (s : State) (p : PortId) (ev : CounterEvent) :
    (s.evaluateAll p ev).commissioning = s.commissioning := rfl
@[simp] theorem evaluateAll_patterns (s : State) (p : PortId) (ev : CounterEvent) :
    (s.evaluateAll p ev).patterns = s.patterns := rfl
@[simp] theorem evaluateAll_keyins (s : State) (p : PortId) (ev : CounterEvent) :
    (s.evaluateAll p ev).keyins = s.keyins := rfl
@[simp] theorem evaluateAll_notice (s : State) (p : PortId) (ev : CounterEvent) :
    (s.evaluateAll p ev).notice = s.notice := rfl
@[simp] theorem evaluateAll_uplink (s : State) (p : PortId) (ev : CounterEvent) :
    (s.evaluateAll p ev).uplink = s.uplink := rfl
@[simp] theorem evaluateAll_sessionLimit (s : State) (p : PortId) (ev : CounterEvent) :
    (s.evaluateAll p ev).sessionLimit = s.sessionLimit := rfl
@[simp] theorem evaluateAll_writerLimit (s : State) (p : PortId) (ev : CounterEvent) :
    (s.evaluateAll p ev).writerLimit = s.writerLimit := rfl
@[simp] theorem evaluateAll_saving (s : State) (p : PortId) (ev : CounterEvent) :
    (s.evaluateAll p ev).saving = s.saving := rfl
@[simp] theorem evaluateAll_memory (s : State) (p : PortId) (ev : CounterEvent) :
    (s.evaluateAll p ev).memory = s.memory := rfl
@[simp] theorem evaluateAll_pending (s : State) (p : PortId) (ev : CounterEvent) :
    (s.evaluateAll p ev).pending = s.pending := rfl

/-! ### settle -/

@[simp] theorem settle_ports (s : State) :
    (settle s).ports = s.ports := rfl
@[simp] theorem settle_stations (s : State) :
    (settle s).stations = s.stations := rfl
@[simp] theorem settle_commissioning (s : State) :
    (settle s).commissioning = s.commissioning := rfl
@[simp] theorem settle_patterns (s : State) :
    (settle s).patterns = s.patterns := rfl
@[simp] theorem settle_comparators (s : State) :
    (settle s).comparators = s.comparators := rfl
@[simp] theorem settle_keyins (s : State) :
    (settle s).keyins = s.keyins := rfl
@[simp] theorem settle_notice (s : State) :
    (settle s).notice = s.notice := rfl
@[simp] theorem settle_uplink (s : State) :
    (settle s).uplink = s.uplink := rfl
@[simp] theorem settle_sessionLimit (s : State) :
    (settle s).sessionLimit = s.sessionLimit := rfl
@[simp] theorem settle_writerLimit (s : State) :
    (settle s).writerLimit = s.writerLimit := rfl
@[simp] theorem settle_saving (s : State) :
    (settle s).saving = s.saving := rfl
@[simp] theorem settle_memory (s : State) :
    (settle s).memory = s.memory := rfl
@[simp] theorem settle_pending (s : State) :
    (settle s).pending = s.pending := rfl

/-! ### sendFrame -/

@[simp] theorem sendFrame_ports (s : State) (m : Mac) (d : List Byte) :
    (sendFrame m d s).ports = s.ports := rfl
@[simp] theorem sendFrame_sessions (s : State) (m : Mac) (d : List Byte) :
    (sendFrame m d s).sessions = s.sessions := rfl
@[simp] theorem sendFrame_stations (s : State) (m : Mac) (d : List Byte) :
    (sendFrame m d s).stations = s.stations := rfl
@[simp] theorem sendFrame_commissioning (s : State) (m : Mac) (d : List Byte) :
    (sendFrame m d s).commissioning = s.commissioning := rfl
@[simp] theorem sendFrame_patterns (s : State) (m : Mac) (d : List Byte) :
    (sendFrame m d s).patterns = s.patterns := rfl
@[simp] theorem sendFrame_comparators (s : State) (m : Mac) (d : List Byte) :
    (sendFrame m d s).comparators = s.comparators := rfl
@[simp] theorem sendFrame_keyins (s : State) (m : Mac) (d : List Byte) :
    (sendFrame m d s).keyins = s.keyins := rfl
@[simp] theorem sendFrame_notice (s : State) (m : Mac) (d : List Byte) :
    (sendFrame m d s).notice = s.notice := rfl
@[simp] theorem sendFrame_sessionLimit (s : State) (m : Mac) (d : List Byte) :
    (sendFrame m d s).sessionLimit = s.sessionLimit := rfl
@[simp] theorem sendFrame_writerLimit (s : State) (m : Mac) (d : List Byte) :
    (sendFrame m d s).writerLimit = s.writerLimit := rfl
@[simp] theorem sendFrame_saving (s : State) (m : Mac) (d : List Byte) :
    (sendFrame m d s).saving = s.saving := rfl
@[simp] theorem sendFrame_memory (s : State) (m : Mac) (d : List Byte) :
    (sendFrame m d s).memory = s.memory := rfl
@[simp] theorem sendFrame_pending (s : State) (m : Mac) (d : List Byte) :
    (sendFrame m d s).pending = s.pending := rfl

/-! ### placeSession -/

@[simp] theorem placeSession_ports (s : State) (k : SlotId) (p : PortId) (t : Target) (c g : Nat) :
    (placeSession k p t c g s).ports = s.ports := rfl
@[simp] theorem placeSession_stations (s : State) (k : SlotId) (p : PortId) (t : Target) (c g : Nat) :
    (placeSession k p t c g s).stations = s.stations := rfl
@[simp] theorem placeSession_commissioning (s : State) (k : SlotId) (p : PortId) (t : Target) (c g : Nat) :
    (placeSession k p t c g s).commissioning = s.commissioning := rfl
@[simp] theorem placeSession_patterns (s : State) (k : SlotId) (p : PortId) (t : Target) (c g : Nat) :
    (placeSession k p t c g s).patterns = s.patterns := rfl
@[simp] theorem placeSession_comparators (s : State) (k : SlotId) (p : PortId) (t : Target) (c g : Nat) :
    (placeSession k p t c g s).comparators = s.comparators := rfl
@[simp] theorem placeSession_keyins (s : State) (k : SlotId) (p : PortId) (t : Target) (c g : Nat) :
    (placeSession k p t c g s).keyins = s.keyins := rfl
@[simp] theorem placeSession_notice (s : State) (k : SlotId) (p : PortId) (t : Target) (c g : Nat) :
    (placeSession k p t c g s).notice = s.notice := rfl
@[simp] theorem placeSession_uplink (s : State) (k : SlotId) (p : PortId) (t : Target) (c g : Nat) :
    (placeSession k p t c g s).uplink = s.uplink := rfl
@[simp] theorem placeSession_sessionLimit (s : State) (k : SlotId) (p : PortId) (t : Target) (c g : Nat) :
    (placeSession k p t c g s).sessionLimit = s.sessionLimit := rfl
@[simp] theorem placeSession_writerLimit (s : State) (k : SlotId) (p : PortId) (t : Target) (c g : Nat) :
    (placeSession k p t c g s).writerLimit = s.writerLimit := rfl
@[simp] theorem placeSession_saving (s : State) (k : SlotId) (p : PortId) (t : Target) (c g : Nat) :
    (placeSession k p t c g s).saving = s.saving := rfl
@[simp] theorem placeSession_memory (s : State) (k : SlotId) (p : PortId) (t : Target) (c g : Nat) :
    (placeSession k p t c g s).memory = s.memory := rfl
@[simp] theorem placeSession_pending (s : State) (k : SlotId) (p : PortId) (t : Target) (c g : Nat) :
    (placeSession k p t c g s).pending = s.pending := rfl

/-! ### touchSession -/

@[simp] theorem touchSession_ports (s : State) (k : SlotId) (m : Mac) :
    (touchSession k m s).ports = s.ports := rfl
@[simp] theorem touchSession_stations (s : State) (k : SlotId) (m : Mac) :
    (touchSession k m s).stations = s.stations := rfl
@[simp] theorem touchSession_commissioning (s : State) (k : SlotId) (m : Mac) :
    (touchSession k m s).commissioning = s.commissioning := rfl
@[simp] theorem touchSession_patterns (s : State) (k : SlotId) (m : Mac) :
    (touchSession k m s).patterns = s.patterns := rfl
@[simp] theorem touchSession_comparators (s : State) (k : SlotId) (m : Mac) :
    (touchSession k m s).comparators = s.comparators := rfl
@[simp] theorem touchSession_keyins (s : State) (k : SlotId) (m : Mac) :
    (touchSession k m s).keyins = s.keyins := rfl
@[simp] theorem touchSession_notice (s : State) (k : SlotId) (m : Mac) :
    (touchSession k m s).notice = s.notice := rfl
@[simp] theorem touchSession_uplink (s : State) (k : SlotId) (m : Mac) :
    (touchSession k m s).uplink = s.uplink := rfl
@[simp] theorem touchSession_sessionLimit (s : State) (k : SlotId) (m : Mac) :
    (touchSession k m s).sessionLimit = s.sessionLimit := rfl
@[simp] theorem touchSession_writerLimit (s : State) (k : SlotId) (m : Mac) :
    (touchSession k m s).writerLimit = s.writerLimit := rfl
@[simp] theorem touchSession_saving (s : State) (k : SlotId) (m : Mac) :
    (touchSession k m s).saving = s.saving := rfl
@[simp] theorem touchSession_memory (s : State) (k : SlotId) (m : Mac) :
    (touchSession k m s).memory = s.memory := rfl
@[simp] theorem touchSession_pending (s : State) (k : SlotId) (m : Mac) :
    (touchSession k m s).pending = s.pending := rfl

/-! ### Reading one row -/

@[simp] theorem port_modPort_same (s : State) (i : PortId) (f : Port → Port) :
    (s.modPort i f).port i = f (s.port i) := by
  simp [State.port, State.modPort]

@[simp] theorem port_modPort_ne (s : State) {i j : PortId} (h : j ≠ i) (f : Port → Port) :
    (s.modPort i f).port j = s.port j := by
  have : i.val ≠ j.val := fun e => h (Fin.ext e.symm)
  simp [State.port, State.modPort, Vector.getElem_set_ne, this]

theorem port_modPort (s : State) (i j : PortId) (f : Port → Port) :
    (s.modPort i f).port j = if j = i then f (s.port i) else s.port j := by
  by_cases h : j = i
  · subst h; simp
  · simp [h]

@[simp] theorem session_modSession_same (s : State) (i : SlotId) (f : Session → Session) :
    (s.modSession i f).session i = f (s.session i) := by
  simp [State.session, State.modSession]

@[simp] theorem session_modSession_ne (s : State) {i j : SlotId} (h : j ≠ i) (f : Session → Session) :
    (s.modSession i f).session j = s.session j := by
  have : i.val ≠ j.val := fun e => h (Fin.ext e.symm)
  simp [State.session, State.modSession, Vector.getElem_set_ne, this]

theorem session_modSession (s : State) (i j : SlotId) (f : Session → Session) :
    (s.modSession i f).session j = if j = i then f (s.session i) else s.session j := by
  by_cases h : j = i
  · subst h; simp
  · simp [h]

@[simp] theorem patternEntry_modPattern_same (s : State) (i : PatternId) (f : PatternEntry → PatternEntry) :
    (s.modPattern i f).patternEntry i = f (s.patternEntry i) := by
  simp [State.patternEntry, State.modPattern]

@[simp] theorem patternEntry_modPattern_ne (s : State) {i j : PatternId} (h : j ≠ i) (f : PatternEntry → PatternEntry) :
    (s.modPattern i f).patternEntry j = s.patternEntry j := by
  have : i.val ≠ j.val := fun e => h (Fin.ext e.symm)
  simp [State.patternEntry, State.modPattern, Vector.getElem_set_ne, this]

theorem patternEntry_modPattern (s : State) (i j : PatternId) (f : PatternEntry → PatternEntry) :
    (s.modPattern i f).patternEntry j = if j = i then f (s.patternEntry i) else s.patternEntry j := by
  by_cases h : j = i
  · subst h; simp
  · simp [h]

@[simp] theorem comparator_modComparator_same (s : State) (i : ComparatorId) (f : Comparator → Comparator) :
    (s.modComparator i f).comparator i = f (s.comparator i) := by
  simp [State.comparator, State.modComparator]

@[simp] theorem comparator_modComparator_ne (s : State) {i j : ComparatorId} (h : j ≠ i) (f : Comparator → Comparator) :
    (s.modComparator i f).comparator j = s.comparator j := by
  have : i.val ≠ j.val := fun e => h (Fin.ext e.symm)
  simp [State.comparator, State.modComparator, Vector.getElem_set_ne, this]

theorem comparator_modComparator (s : State) (i j : ComparatorId) (f : Comparator → Comparator) :
    (s.modComparator i f).comparator j = if j = i then f (s.comparator i) else s.comparator j := by
  by_cases h : j = i
  · subst h; simp
  · simp [h]

@[simp] theorem keyin_modKeyin_same (s : State) (i : KeyinId) (f : KeyinEntry → KeyinEntry) :
    (s.modKeyin i f).keyin i = f (s.keyin i) := by
  simp [State.keyin, State.modKeyin]

@[simp] theorem keyin_modKeyin_ne (s : State) {i j : KeyinId} (h : j ≠ i) (f : KeyinEntry → KeyinEntry) :
    (s.modKeyin i f).keyin j = s.keyin j := by
  have : i.val ≠ j.val := fun e => h (Fin.ext e.symm)
  simp [State.keyin, State.modKeyin, Vector.getElem_set_ne, this]

theorem keyin_modKeyin (s : State) (i j : KeyinId) (f : KeyinEntry → KeyinEntry) :
    (s.modKeyin i f).keyin j = if j = i then f (s.keyin i) else s.keyin j := by
  by_cases h : j = i
  · subst h; simp
  · simp [h]

@[simp] theorem port_modSession (s : State) (k : SlotId) (f : Session → Session) (j : PortId) :
    (s.modSession k f).port j = s.port j := rfl
@[simp] theorem port_modAttachment (s : State) (k : SlotId) (f : Attachment → Attachment) (j : PortId) :
    (s.modAttachment k f).port j = s.port j := rfl
@[simp] theorem port_mapAttached (s : State) (p : PortId) (f : Attachment → Attachment) (j : PortId) :
    (s.mapAttached p f).port j = s.port j := rfl
@[simp] theorem port_modPattern (s : State) (i : PatternId) (f : PatternEntry → PatternEntry) (j : PortId) :
    (s.modPattern i f).port j = s.port j := rfl
@[simp] theorem port_modComparator (s : State) (i : ComparatorId) (f : Comparator → Comparator) (j : PortId) :
    (s.modComparator i f).port j = s.port j := rfl
@[simp] theorem port_modKeyin (s : State) (e : KeyinId) (f : KeyinEntry → KeyinEntry) (j : PortId) :
    (s.modKeyin e f).port j = s.port j := rfl
@[simp] theorem port_countUplink (s : State) (f : UplinkCounters → UplinkCounters) (j : PortId) :
    (s.countUplink f).port j = s.port j := rfl
@[simp] theorem port_reply (s : State) (c : Ctx) (r : Result) (vs : List Byte) (j : PortId) :
    (reply c r vs s).port j = s.port j := rfl
@[simp] theorem port_removeFrame (s : State) (j : PortId) :
    (removeFrame s).port j = s.port j := rfl
@[simp] theorem port_clearWindows (s : State) (p : PortId) (j : PortId) :
    (clearWindows p s).port j = s.port j := rfl
@[simp] theorem port_pushByte (s : State) (p : PortId) (b : Byte) (j : PortId) :
    (s.pushByte p b).port j = s.port j := rfl
@[simp] theorem port_evaluateAll (s : State) (p : PortId) (ev : CounterEvent) (j : PortId) :
    (s.evaluateAll p ev).port j = s.port j := rfl
@[simp] theorem port_settle (s : State) (j : PortId) :
    (settle s).port j = s.port j := rfl
@[simp] theorem port_sendFrame (s : State) (m : Mac) (d : List Byte) (j : PortId) :
    (sendFrame m d s).port j = s.port j := rfl
@[simp] theorem port_placeSession (s : State) (k : SlotId) (p : PortId) (t : Target) (c g : Nat) (j : PortId) :
    (placeSession k p t c g s).port j = s.port j := rfl
@[simp] theorem port_touchSession (s : State) (k : SlotId) (m : Mac) (j : PortId) :
    (touchSession k m s).port j = s.port j := rfl
@[simp] theorem session_modPort (s : State) (p : PortId) (f : Port → Port) (j : SlotId) :
    (s.modPort p f).session j = s.session j := rfl
@[simp] theorem session_modPattern (s : State) (i : PatternId) (f : PatternEntry → PatternEntry) (j : SlotId) :
    (s.modPattern i f).session j = s.session j := rfl
@[simp] theorem session_modComparator (s : State) (i : ComparatorId) (f : Comparator → Comparator) (j : SlotId) :
    (s.modComparator i f).session j = s.session j := rfl
@[simp] theorem session_modKeyin (s : State) (e : KeyinId) (f : KeyinEntry → KeyinEntry) (j : SlotId) :
    (s.modKeyin e f).session j = s.session j := rfl
@[simp] theorem session_setRing (s : State) (p : PortId) (r : Ring) (j : SlotId) :
    (s.setRing p r).session j = s.session j := rfl
@[simp] theorem session_countUplink (s : State) (f : UplinkCounters → UplinkCounters) (j : SlotId) :
    (s.countUplink f).session j = s.session j := rfl
@[simp] theorem session_reply (s : State) (c : Ctx) (r : Result) (vs : List Byte) (j : SlotId) :
    (reply c r vs s).session j = s.session j := rfl
@[simp] theorem session_removeFrame (s : State) (j : SlotId) :
    (removeFrame s).session j = s.session j := rfl
@[simp] theorem session_clearWindows (s : State) (p : PortId) (j : SlotId) :
    (clearWindows p s).session j = s.session j := rfl
@[simp] theorem session_pushByte (s : State) (p : PortId) (b : Byte) (j : SlotId) :
    (s.pushByte p b).session j = s.session j := rfl
@[simp] theorem session_evaluateAll (s : State) (p : PortId) (ev : CounterEvent) (j : SlotId) :
    (s.evaluateAll p ev).session j = s.session j := rfl
@[simp] theorem session_sendFrame (s : State) (m : Mac) (d : List Byte) (j : SlotId) :
    (sendFrame m d s).session j = s.session j := rfl
@[simp] theorem patternEntry_modPort (s : State) (p : PortId) (f : Port → Port) (j : PatternId) :
    (s.modPort p f).patternEntry j = s.patternEntry j := rfl
@[simp] theorem patternEntry_modSession (s : State) (k : SlotId) (f : Session → Session) (j : PatternId) :
    (s.modSession k f).patternEntry j = s.patternEntry j := rfl
@[simp] theorem patternEntry_modAttachment (s : State) (k : SlotId) (f : Attachment → Attachment) (j : PatternId) :
    (s.modAttachment k f).patternEntry j = s.patternEntry j := rfl
@[simp] theorem patternEntry_mapAttached (s : State) (p : PortId) (f : Attachment → Attachment) (j : PatternId) :
    (s.mapAttached p f).patternEntry j = s.patternEntry j := rfl
@[simp] theorem patternEntry_modComparator (s : State) (i : ComparatorId) (f : Comparator → Comparator) (j : PatternId) :
    (s.modComparator i f).patternEntry j = s.patternEntry j := rfl
@[simp] theorem patternEntry_modKeyin (s : State) (e : KeyinId) (f : KeyinEntry → KeyinEntry) (j : PatternId) :
    (s.modKeyin e f).patternEntry j = s.patternEntry j := rfl
@[simp] theorem patternEntry_setRing (s : State) (p : PortId) (r : Ring) (j : PatternId) :
    (s.setRing p r).patternEntry j = s.patternEntry j := rfl
@[simp] theorem patternEntry_countUplink (s : State) (f : UplinkCounters → UplinkCounters) (j : PatternId) :
    (s.countUplink f).patternEntry j = s.patternEntry j := rfl
@[simp] theorem patternEntry_reply (s : State) (c : Ctx) (r : Result) (vs : List Byte) (j : PatternId) :
    (reply c r vs s).patternEntry j = s.patternEntry j := rfl
@[simp] theorem patternEntry_removeFrame (s : State) (j : PatternId) :
    (removeFrame s).patternEntry j = s.patternEntry j := rfl
@[simp] theorem patternEntry_evaluateAll (s : State) (p : PortId) (ev : CounterEvent) (j : PatternId) :
    (s.evaluateAll p ev).patternEntry j = s.patternEntry j := rfl
@[simp] theorem patternEntry_settle (s : State) (j : PatternId) :
    (settle s).patternEntry j = s.patternEntry j := rfl
@[simp] theorem patternEntry_sendFrame (s : State) (m : Mac) (d : List Byte) (j : PatternId) :
    (sendFrame m d s).patternEntry j = s.patternEntry j := rfl
@[simp] theorem patternEntry_placeSession (s : State) (k : SlotId) (p : PortId) (t : Target) (c g : Nat) (j : PatternId) :
    (placeSession k p t c g s).patternEntry j = s.patternEntry j := rfl
@[simp] theorem patternEntry_touchSession (s : State) (k : SlotId) (m : Mac) (j : PatternId) :
    (touchSession k m s).patternEntry j = s.patternEntry j := rfl
@[simp] theorem comparator_modPort (s : State) (p : PortId) (f : Port → Port) (j : ComparatorId) :
    (s.modPort p f).comparator j = s.comparator j := rfl
@[simp] theorem comparator_modSession (s : State) (k : SlotId) (f : Session → Session) (j : ComparatorId) :
    (s.modSession k f).comparator j = s.comparator j := rfl
@[simp] theorem comparator_modAttachment (s : State) (k : SlotId) (f : Attachment → Attachment) (j : ComparatorId) :
    (s.modAttachment k f).comparator j = s.comparator j := rfl
@[simp] theorem comparator_mapAttached (s : State) (p : PortId) (f : Attachment → Attachment) (j : ComparatorId) :
    (s.mapAttached p f).comparator j = s.comparator j := rfl
@[simp] theorem comparator_modPattern (s : State) (i : PatternId) (f : PatternEntry → PatternEntry) (j : ComparatorId) :
    (s.modPattern i f).comparator j = s.comparator j := rfl
@[simp] theorem comparator_modKeyin (s : State) (e : KeyinId) (f : KeyinEntry → KeyinEntry) (j : ComparatorId) :
    (s.modKeyin e f).comparator j = s.comparator j := rfl
@[simp] theorem comparator_setRing (s : State) (p : PortId) (r : Ring) (j : ComparatorId) :
    (s.setRing p r).comparator j = s.comparator j := rfl
@[simp] theorem comparator_countUplink (s : State) (f : UplinkCounters → UplinkCounters) (j : ComparatorId) :
    (s.countUplink f).comparator j = s.comparator j := rfl
@[simp] theorem comparator_reply (s : State) (c : Ctx) (r : Result) (vs : List Byte) (j : ComparatorId) :
    (reply c r vs s).comparator j = s.comparator j := rfl
@[simp] theorem comparator_removeFrame (s : State) (j : ComparatorId) :
    (removeFrame s).comparator j = s.comparator j := rfl
@[simp] theorem comparator_clearWindows (s : State) (p : PortId) (j : ComparatorId) :
    (clearWindows p s).comparator j = s.comparator j := rfl
@[simp] theorem comparator_pushByte (s : State) (p : PortId) (b : Byte) (j : ComparatorId) :
    (s.pushByte p b).comparator j = s.comparator j := rfl
@[simp] theorem comparator_settle (s : State) (j : ComparatorId) :
    (settle s).comparator j = s.comparator j := rfl
@[simp] theorem comparator_sendFrame (s : State) (m : Mac) (d : List Byte) (j : ComparatorId) :
    (sendFrame m d s).comparator j = s.comparator j := rfl
@[simp] theorem comparator_placeSession (s : State) (k : SlotId) (p : PortId) (t : Target) (c g : Nat) (j : ComparatorId) :
    (placeSession k p t c g s).comparator j = s.comparator j := rfl
@[simp] theorem comparator_touchSession (s : State) (k : SlotId) (m : Mac) (j : ComparatorId) :
    (touchSession k m s).comparator j = s.comparator j := rfl
@[simp] theorem keyin_modPort (s : State) (p : PortId) (f : Port → Port) (j : KeyinId) :
    (s.modPort p f).keyin j = s.keyin j := rfl
@[simp] theorem keyin_modSession (s : State) (k : SlotId) (f : Session → Session) (j : KeyinId) :
    (s.modSession k f).keyin j = s.keyin j := rfl
@[simp] theorem keyin_modAttachment (s : State) (k : SlotId) (f : Attachment → Attachment) (j : KeyinId) :
    (s.modAttachment k f).keyin j = s.keyin j := rfl
@[simp] theorem keyin_mapAttached (s : State) (p : PortId) (f : Attachment → Attachment) (j : KeyinId) :
    (s.mapAttached p f).keyin j = s.keyin j := rfl
@[simp] theorem keyin_modPattern (s : State) (i : PatternId) (f : PatternEntry → PatternEntry) (j : KeyinId) :
    (s.modPattern i f).keyin j = s.keyin j := rfl
@[simp] theorem keyin_modComparator (s : State) (i : ComparatorId) (f : Comparator → Comparator) (j : KeyinId) :
    (s.modComparator i f).keyin j = s.keyin j := rfl
@[simp] theorem keyin_setRing (s : State) (p : PortId) (r : Ring) (j : KeyinId) :
    (s.setRing p r).keyin j = s.keyin j := rfl
@[simp] theorem keyin_countUplink (s : State) (f : UplinkCounters → UplinkCounters) (j : KeyinId) :
    (s.countUplink f).keyin j = s.keyin j := rfl
@[simp] theorem keyin_reply (s : State) (c : Ctx) (r : Result) (vs : List Byte) (j : KeyinId) :
    (reply c r vs s).keyin j = s.keyin j := rfl
@[simp] theorem keyin_removeFrame (s : State) (j : KeyinId) :
    (removeFrame s).keyin j = s.keyin j := rfl
@[simp] theorem keyin_clearWindows (s : State) (p : PortId) (j : KeyinId) :
    (clearWindows p s).keyin j = s.keyin j := rfl
@[simp] theorem keyin_pushByte (s : State) (p : PortId) (b : Byte) (j : KeyinId) :
    (s.pushByte p b).keyin j = s.keyin j := rfl
@[simp] theorem keyin_evaluateAll (s : State) (p : PortId) (ev : CounterEvent) (j : KeyinId) :
    (s.evaluateAll p ev).keyin j = s.keyin j := rfl
@[simp] theorem keyin_settle (s : State) (j : KeyinId) :
    (settle s).keyin j = s.keyin j := rfl
@[simp] theorem keyin_sendFrame (s : State) (m : Mac) (d : List Byte) (j : KeyinId) :
    (sendFrame m d s).keyin j = s.keyin j := rfl
@[simp] theorem keyin_placeSession (s : State) (k : SlotId) (p : PortId) (t : Target) (c g : Nat) (j : KeyinId) :
    (placeSession k p t c g s).keyin j = s.keyin j := rfl
@[simp] theorem keyin_touchSession (s : State) (k : SlotId) (m : Mac) (j : KeyinId) :
    (touchSession k m s).keyin j = s.keyin j := rfl

end Sys2Proof.Machine
end

