-- ==== Sys2Proof/Laws/Ops.lean ====
section
/-! SUPPORT. One lemma for each shared operation that says all it does: tables and repetition, marks
and stored bytes, raising a cause, the content test, what the line and key-in operations never
touch, the edges a detector accepts, and where a start places a cursor. -/

namespace Sys2Proof.Machine

/-! ### Tables and repetition -/

@[simp] theorem tabMap_get {α β : Type} {n : Nat} (f : α → β) (v : Vector α n) (i : Nat) (h : i < n) :
    (tabMap f v)[i] = f v[i] := by
  simp [tabMap]

@[simp] theorem forEach_nil {α : Type} (f : α → State → State) (s : State) : forEach [] f s = s := rfl

@[simp] theorem forEach_cons {α : Type} (x : α) (xs : List α) (f : α → State → State) (s : State) :
    forEach (x :: xs) f s = forEach xs f (f x s) := rfl

theorem forEach_append {α : Type} (xs ys : List α) (f : α → State → State) (s : State) :
    forEach (xs ++ ys) f s = forEach ys f (forEach xs f s) := by
  simp [forEach, List.foldl_append]

/-- What every step of a repetition keeps, the repetition keeps. -/
theorem forEach_keeps {α : Type} (P : State → Prop) {f : α → State → State} {xs : List α}
    (h : ∀ x ∈ xs, ∀ s, P s → P (f x s)) : ∀ {s : State}, P s → P (forEach xs f s) := by
  induction xs with
  | nil => exact fun hs => hs
  | cons x xs ih =>
    intro s hs
    exact ih (fun y hy => h y (List.mem_cons_of_mem x hy)) (h x List.mem_cons_self s hs)

/-- A reading that no step of a repetition changes, the repetition does not change. -/
theorem forEach_reads {α β : Type} (g : State → β) {f : α → State → State}
    (h : ∀ x s, g (f x s) = g s) (xs : List α) (s : State) : g (forEach xs f s) = g s := by
  induction xs generalizing s with
  | nil => rfl
  | cons x xs ih => rw [forEach_cons, ih, h]

/-! ### Session records -/

@[simp] theorem mapAttachment_attachment (f : Attachment → Attachment) (x : Session) :
    (x.mapAttachment f).attachment = x.attachment.map f := by
  cases x with
  | mk g l => cases l <;> rfl

@[simp] theorem mapAttachment_generation (f : Attachment → Attachment) (x : Session) :
    (x.mapAttachment f).generation = x.generation := rfl

@[simp] theorem mapAttachment_live_isSome (f : Attachment → Attachment) (x : Session) :
    (x.mapAttachment f).live.isSome = x.live.isSome := by
  simp [Session.mapAttachment]

theorem mapAttached_session (s : State) (p : PortId) (f : Attachment → Attachment) (k : SlotId) :
    (s.mapAttached p f).session k =
      (s.session k).mapAttachment fun a => if a.port = p then f a else a := by
  simp [State.mapAttached, State.session, Fin.getElem_fin]

theorem modAttachment_session (s : State) (k j : SlotId) (f : Attachment → Attachment) :
    (s.modAttachment k f).session j =
      if k = j then (s.session j).mapAttachment f else s.session j := by
  by_cases h : k = j
  · subst h; simp [State.modAttachment, State.modSession, State.session]
  · have : (k : Nat) ≠ j := fun e => h (Fin.ext e)
    simp [State.modAttachment, State.modSession, State.session, Fin.getElem_fin, h, this]

/-! ### Marks and stored bytes (R45 to R51) -/

@[simp] theorem addMark_head (r : Ring) (k : MarkKind) (w : Word16) : (r.addMark k w).head = r.head := rfl
@[simp] theorem addMark_held (r : Ring) (k : MarkKind) (w : Word16) : (r.addMark k w).held = r.held := rfl
@[simp] theorem addMark_fill (r : Ring) (k : MarkKind) (w : Word16) : (r.addMark k w).fill = r.fill := rfl
@[simp] theorem addMark_oldest (r : Ring) (k : MarkKind) (w : Word16) :
    (r.addMark k w).oldest = r.oldest := rfl
@[simp] theorem addMark_read (r : Ring) (k : MarkKind) (w : Word16) (c : Pos) :
    (r.addMark k w).read c = r.read c := rfl

/-- The content test changes the gather timer alone. -/
theorem gatherTest_eq (a : Attachment) (r : Ring) :
    a.gatherTest r = { a with gather := (a.gatherTest r).gather } := by
  unfold Attachment.gatherTest
  split
  · split <;> rfl
  · rfl

@[simp] theorem gatherTest_port (a : Attachment) (r : Ring) : (a.gatherTest r).port = a.port := by
  rw [gatherTest_eq]
@[simp] theorem gatherTest_cursor (a : Attachment) (r : Ring) : (a.gatherTest r).cursor = a.cursor := by
  rw [gatherTest_eq]
@[simp] theorem gatherTest_lost (a : Attachment) (r : Ring) : (a.gatherTest r).lost = a.lost := by
  rw [gatherTest_eq]
@[simp] theorem gatherTest_unmoved (a : Attachment) (r : Ring) :
    (a.gatherTest r).unmoved = a.unmoved := by
  rw [gatherTest_eq]; rfl

@[simp] theorem syncMarks_port (n : MarkNo) (a : Attachment) : (a.syncMarks n).port = a.port := by
  unfold Attachment.syncMarks; split <;> rfl
@[simp] theorem syncMarks_cursor (n : MarkNo) (a : Attachment) : (a.syncMarks n).cursor = a.cursor := by
  unfold Attachment.syncMarks; split <;> rfl
@[simp] theorem syncMarks_lost (n : MarkNo) (a : Attachment) : (a.syncMarks n).lost = a.lost := by
  unfold Attachment.syncMarks; split <;> rfl
@[simp] theorem syncMarks_unmoved (n : MarkNo) (a : Attachment) :
    (a.syncMarks n).unmoved = a.unmoved := by
  unfold Attachment.syncMarks; split <;> rfl

/-- Two rewritings of the sessions on a port, the first of which leaves their port, are one. -/
theorem mapAttached_twice (s : State) (p : PortId) (f g : Attachment → Attachment)
    (h : ∀ a, (f a).port = a.port) :
    (s.mapAttached p f).mapAttached p g = s.mapAttached p fun a => g (f a) := by
  unfold State.mapAttached
  congr 1
  apply Vector.ext
  intro i hi
  simp only [tabMap_get]
  cases hx : s.sessions[i] with
  | mk n l =>
    cases l with
    | none => rfl
    | some l =>
      cases l with
      | mk st rank peer idle att =>
        cases att with
        | none => rfl
        | some a =>
          by_cases hp : a.port = p <;> simp [Session.mapAttachment, hp, h]

/-- A mark written on a port changes that port's ring and, in sessions on it, what R51 moves up and the
gather timer. -/
theorem writeMark_eq (p : PortId) (k : MarkKind) (w : Word16) (s : State) :
    ∃ f : Attachment → Attachment, (∀ a, (f a).port = a.port ∧ (f a).unmoved = a.unmoved ∧
        (f a).cursor = a.cursor ∧ (f a).lost = a.lost) ∧
      writeMark p k w s = (s.setRing p ((s.port p).ring.addMark k w)).mapAttached p f := by
  have hr : ∀ f, (((s.setRing p ((s.port p).ring.addMark k w)).mapAttached p f).port p).ring =
      (s.port p).ring.addMark k w := fun f => by
    simp [State.setRing, State.port, State.modPort, State.mapAttached]
  have hr' : ((s.setRing p ((s.port p).ring.addMark k w)).port p).ring =
      (s.port p).ring.addMark k w := by simp [State.setRing, State.port, State.modPort]
  unfold writeMark State.testContent
  by_cases h : Config.maxMarks ≤ (s.port p).ring.marks.length
  · refine ⟨fun a => (a.syncMarks ((s.port p).ring.addMark k w).reference).gatherTest
        ((s.port p).ring.addMark k w), fun a => by simp, ?_⟩
    simp only [h, if_true, hr]
    rw [mapAttached_twice _ _ _ _ (fun a => syncMarks_port _ a)]
  · exact ⟨(·.gatherTest ((s.port p).ring.addMark k w)), fun a => by simp, by simp only [h, if_false, hr']⟩

/-- A stored byte changes that port's ring and, in sessions on it, what the ring moves and the gather
timer. -/
theorem storeByte_eq (p : PortId) (b : Byte) (s : State) :
    ∃ f : Attachment → Attachment, (∀ a, (f a).port = a.port ∧ (f a).unmoved = a.unmoved) ∧
      storeByte p b s =
        (s.setRing p ((s.port p).ring.store (s.port p).capacity b)).mapAttached p f := by
  have ho : ∀ (a : Attachment) (o : Pos) (c : Bool) (n : MarkNo),
      (a.oldestAdvanced o c n).port = a.port ∧ (a.oldestAdvanced o c n).unmoved = a.unmoved := by
    intro a o c n
    have hv : (a.overtaken o).port = a.port ∧ (a.overtaken o).unmoved = a.unmoved := by
      unfold Attachment.overtaken; split <;> exact ⟨rfl, rfl⟩
    unfold Attachment.oldestAdvanced; split <;> simp [hv]
  have hr : ∀ f, (((s.setRing p ((s.port p).ring.store (s.port p).capacity b)).mapAttached p f).port p).ring
      = (s.port p).ring.store (s.port p).capacity b := fun f => by
    simp [State.setRing, State.port, State.modPort, State.mapAttached]
  have hr' : ((s.setRing p ((s.port p).ring.store (s.port p).capacity b)).port p).ring =
      (s.port p).ring.store (s.port p).capacity b := by simp [State.setRing, State.port, State.modPort]
  unfold storeByte State.testContent
  dsimp only
  split
  · exact ⟨(·.gatherTest ((s.port p).ring.store (s.port p).capacity b)), fun a => by simp,
      by simp only [hr']⟩
  · refine ⟨fun a => (a.oldestAdvanced (s.port p).ring.oldest
        (decide (((s.port p).ring.store (s.port p).capacity b).marks.length <
          (s.port p).ring.marks.length))
        ((s.port p).ring.store (s.port p).capacity b).reference).gatherTest
        ((s.port p).ring.store (s.port p).capacity b), fun a => by simp [ho], ?_⟩
    simp only [hr]
    rw [mapAttached_twice _ _ _ _ (fun a => (ho a _ _ _).1)]

@[simp] theorem writeMark_port_same (p : PortId) (k : MarkKind) (w : Word16) (s : State) :
    (writeMark p k w s).port p = { s.port p with ring := (s.port p).ring.addMark k w } := by
  obtain ⟨f, -, h⟩ := writeMark_eq p k w s
  rw [h]; simp [State.setRing, State.port, State.modPort, State.mapAttached]

@[simp] theorem writeMark_port_ne {p p' : PortId} (h : p' ≠ p) (k : MarkKind) (w : Word16) (s : State) :
    (writeMark p k w s).port p' = s.port p' := by
  obtain ⟨f, -, e⟩ := writeMark_eq p k w s
  have : (p : Nat) ≠ p' := fun e => h (Fin.ext e.symm)
  rw [e]; simp [State.setRing, State.port, State.modPort, State.mapAttached, Fin.getElem_fin, this]

/-- A stored byte moves the head of its ring on by one. -/
@[simp] theorem store_head (cap : Nat) (b : Byte) (r : Ring) : (r.store cap b).head = r.head + 1 := by
  unfold Ring.store; split <;> rfl

@[simp] theorem store_nextMark (cap : Nat) (b : Byte) (r : Ring) :
    (r.store cap b).nextMark = r.nextMark := by
  unfold Ring.store; split <;> rfl

theorem store_held (cap : Nat) (b : Byte) (r : Ring) :
    (r.store cap b).held =
      if r.held.length < cap then r.held ++ [b] else (r.held ++ [b]).drop 1 := by
  unfold Ring.store; split <;> rfl

/-- The byte just stored reads back at the old head, where the ring has room. -/
theorem store_read_head (cap : Nat) (b : Byte) (r : Ring) (h : r.held.length < cap)
    (h' : r.held.length < 2 ^ 32) : (r.store cap b).read r.head = some b := by
  have e : ∀ x y : BitVec 32, x - (x + 1 - (y + 1#32)) = y := fun x y => by bv_omega
  have k : (r.head - (r.head + 1 - BitVec.ofNat 32 (r.held.length + 1))).toNat = r.held.length := by
    rw [BitVec.ofNat_add, e, BitVec.toNat_ofNat, Nat.mod_eq_of_lt h']
  unfold Ring.read Ring.oldest Ring.store
  simp only [h, if_true, List.length_append, List.length_singleton]
  rw [k]; simp

/-! ### Raising a cause (R161, R163) -/

/-- A raise changes the notice unit alone, and of it the queue and the overflow flag alone. -/
theorem raise_eq (c : Cause) (p : Option PortId) (w : Word16) (s : State) :
    ∃ q o, raise c p w s = { s with notice := { s.notice with queue := q, overflow := o } } := by
  unfold raise NoticeUnit.take
  split
  · split
    · exact ⟨_, _, rfl⟩
    · split
      · exact ⟨_, _, rfl⟩
      · exact ⟨_, _, rfl⟩
  · exact ⟨s.notice.queue, s.notice.overflow, rfl⟩

@[simp] theorem raise_port (c : Cause) (p : Option PortId) (w : Word16) (s : State) (p' : PortId) :
    (raise c p w s).port p' = s.port p' := by obtain ⟨q, o, h⟩ := raise_eq c p w s; rw [h]; rfl
@[simp] theorem raise_ports (c : Cause) (p : Option PortId) (w : Word16) (s : State) :
    (raise c p w s).ports = s.ports := by obtain ⟨q, o, h⟩ := raise_eq c p w s; rw [h]
@[simp] theorem raise_sessions (c : Cause) (p : Option PortId) (w : Word16) (s : State) :
    (raise c p w s).sessions = s.sessions := by obtain ⟨q, o, h⟩ := raise_eq c p w s; rw [h]
@[simp] theorem raise_patterns (c : Cause) (p : Option PortId) (w : Word16) (s : State) :
    (raise c p w s).patterns = s.patterns := by obtain ⟨q, o, h⟩ := raise_eq c p w s; rw [h]
@[simp] theorem raise_comparators (c : Cause) (p : Option PortId) (w : Word16) (s : State) :
    (raise c p w s).comparators = s.comparators := by obtain ⟨q, o, h⟩ := raise_eq c p w s; rw [h]
@[simp] theorem raise_keyins (c : Cause) (p : Option PortId) (w : Word16) (s : State) :
    (raise c p w s).keyins = s.keyins := by obtain ⟨q, o, h⟩ := raise_eq c p w s; rw [h]

/-- A raise leaves at most 32 records where there were at most 32. -/
theorem take_length (n : NoticeRecord) (u : NoticeUnit) (h : u.queue.length ≤ Config.noticeRecords) :
    (u.take n).queue.length ≤ Config.noticeRecords := by
  unfold NoticeUnit.take
  split
  · simpa using h
  · split
    · simpa using by omega
    · exact h

/-! ### The content test (R90) -/

@[simp] theorem gatherTest_content (a : Attachment) (r : Ring) :
    (a.gatherTest r).content r = a.content r := by
  rw [gatherTest_eq]; rfl

/-- A timer that agrees with the content is left as it is. -/
theorem gatherTest_of_agrees {a : Attachment} {r : Ring}
    (h : a.gather = .stopped ↔ a.content r = false) : a.gatherTest r = a := by
  unfold Attachment.gatherTest
  by_cases hc : a.content r = true
  · have hg : a.gather ≠ .stopped := fun e => by simp [h.1 e] at hc
    simp only [hc, if_true]
  · have hg := h.2 (by simpa using hc)
    cases a; simp_all

/-- The content test made for every session, in a state where every timer agrees, changes nothing. -/
theorem settle_of_settled {s : State} (h : s.settled) : settle s = s := by
  have hv : tabMap (Session.mapAttachment fun a => a.gatherTest (s.port a.port).ring) s.sessions =
      s.sessions := by
    apply Vector.ext
    intro i hi
    rw [tabMap_get]
    have hk := h ⟨i, hi⟩
    cases hx : s.sessions[i] with
    | mk g l =>
      cases l with
      | none => rfl
      | some l =>
        cases l with
        | mk st rank peer idle att =>
          cases att with
          | none => rfl
          | some a =>
            have ha : a.gather = .stopped ↔ a.content (s.port a.port).ring = false :=
              hk a (by simp [State.session, Fin.getElem_fin, hx, Session.attachment])
            simp [Session.mapAttachment, gatherTest_of_agrees ha]
  unfold settle
  rw [hv]

/-! ### The image (R183, R185) -/

/-- The image that a save leaves takes in every record it wrote. -/
theorem recordsWithin_all (rs : List ImageRecord) (n : Nat) (h : (imageBytes rs).length ≤ n) :
    recordsWithin n rs = rs := by
  induction rs generalizing n with
  | nil => cases n <;> rfl
  | cons r rs ih =>
    have e : (imageBytes (r :: rs)).length = (recordBytes r).length + (imageBytes rs).length := by
      simp [imageBytes]
    unfold recordsWithin
    rw [if_pos (by omega), ih _ (by omega)]

/-- The image that a save leaves is good, and its records are those that the save wrote. -/
theorem savedMemory_good (rs : List ImageRecord) :
    imageGood (savedMemory rs) = true ∧ imageRecordsOf (savedMemory rs) = rs := by
  refine ⟨?_, recordsWithin_all rs _ (Nat.le_refl _)⟩
  simp [imageGood, sumAgrees, savedMemory]

/-! ### What line and key-in operations never touch -/

/-- The Station Table, the uplink, the settings, the image and the commands that wait. -/
def State.outside (s : State) :
    Vector Station 16 × Bool × Uplink × Nat × Nat × Option (List ImageRecord) × ConfigMemory × List Instr :=
  (s.stations, s.commissioning, s.uplink, s.sessionLimit, s.writerLimit, s.saving, s.memory, s.pending)

@[simp] theorem raise_outside (c : Cause) (p : Option PortId) (w : Word16) (s : State) :
    (raise c p w s).outside = s.outside := by obtain ⟨q, o, h⟩ := raise_eq c p w s; rw [h]; rfl

@[simp] theorem modPort_outside (s : State) (p : PortId) (f : Port → Port) :
    (s.modPort p f).outside = s.outside := rfl
@[simp] theorem modKeyin_outside (s : State) (e : KeyinId) (f : KeyinEntry → KeyinEntry) :
    (s.modKeyin e f).outside = s.outside := rfl
@[simp] theorem modPattern_outside (s : State) (i : PatternId) (f : PatternEntry → PatternEntry) :
    (s.modPattern i f).outside = s.outside := rfl
@[simp] theorem mapAttached_outside (s : State) (p : PortId) (f : Attachment → Attachment) :
    (s.mapAttached p f).outside = s.outside := rfl
@[simp] theorem modAttachment_outside (s : State) (k : SlotId) (f : Attachment → Attachment) :
    (s.modAttachment k f).outside = s.outside := rfl
@[simp] theorem settle_outside (s : State) : (settle s).outside = s.outside := rfl
@[simp] theorem clearWindows_outside (p : PortId) (s : State) :
    (clearWindows p s).outside = s.outside := rfl
@[simp] theorem evaluateAll_outside (s : State) (p : PortId) (ev : CounterEvent) :
    (s.evaluateAll p ev).outside = s.outside := rfl

@[simp] theorem writeMark_outside (p : PortId) (k : MarkKind) (w : Word16) (s : State) :
    (writeMark p k w s).outside = s.outside := by
  obtain ⟨f, -, h⟩ := writeMark_eq p k w s; rw [h]; rfl

@[simp] theorem storeByte_outside (p : PortId) (b : Byte) (s : State) :
    (storeByte p b s).outside = s.outside := by
  obtain ⟨f, -, h⟩ := storeByte_eq p b s; rw [h]; rfl

@[simp] theorem startKeyinItem_outside (p : PortId) (e : KeyinId) (s : State) :
    (startKeyinItem p e s).outside = s.outside := by
  unfold startKeyinItem; split <;> rfl

@[simp] theorem txChoice_outside (p : PortId) (s : State) : (txChoice p s).outside = s.outside := by
  unfold txChoice; split
  · rfl
  · split <;> simp

@[simp] theorem startEntry_outside (e : KeyinId) (s : State) :
    (startEntry e s).outside = s.outside := by
  simp [startEntry]

@[simp] theorem startStep_outside (p : PortId) (s : State) : (startStep p s).outside = s.outside := by
  unfold startStep; split
  · rfl
  · split <;> simp

@[simp] theorem report_outside (h : Option PortId) (r : Report) (s : State) :
    (report h r s).outside = s.outside := by
  unfold report; dsimp only
  rw [forEach_reads State.outside (fun p s => startStep_outside p s),
    forEach_reads State.outside (fun e s => by simp [makePending])]

@[simp] theorem keyinAction_outside (e : KeyinId) (s : State) :
    (keyinAction e s).outside = s.outside := by
  unfold keyinAction; dsimp only; split <;> simp [makePending]

@[simp] theorem endRecord_outside (e : KeyinId) (o : Outcome) (s : State) :
    (endRecord e o s).outside = s.outside := by
  simp [endRecord]

@[simp] theorem endHeld_outside (e : KeyinId) (o : Outcome) (s : State) :
    (endHeld e o s).outside = s.outside := by
  simp [endHeld]

@[simp] theorem endEntry_outside (e : KeyinId) (o : Outcome) (s : State) :
    (endEntry e o s).outside = s.outside := by
  unfold endEntry; dsimp only; split <;> simp

@[simp] theorem stopEntry_outside (e : KeyinId) (o : Outcome) (s : State) :
    (stopEntry e o s).outside = s.outside := by
  unfold stopEntry; split
  · rfl
  · split
    · rfl
    · split <;> simp

@[simp] theorem abortAll_outside (p : PortId) (s : State) : (abortAll p s).outside = s.outside :=
  forEach_reads State.outside (fun e s => by simp) _ s

@[simp] theorem startPulse_outside (p : PortId) (s : State) : (startPulse p s).outside = s.outside := by
  simp [startPulse]

@[simp] theorem cutPulse_outside (p : PortId) (s : State) : (cutPulse p s).outside = s.outside := by
  unfold cutPulse; split <;> simp

@[simp] theorem enterSwitching_outside (p : PortId) (old : Profile) (w : Word16) (s : State) :
    (enterSwitching p old w s).outside = s.outside := by
  unfold enterSwitching; dsimp only; split <;> simp

@[simp] theorem enterLiveWith_outside (p : PortId) (n : Nat) (s : State) :
    (enterLiveWith p n s).outside = s.outside := by
  simp [enterLiveWith]

@[simp] theorem settleSwitching_outside (p : PortId) (s : State) :
    (settleSwitching p s).outside = s.outside := by
  unfold settleSwitching endSwitching; split
  · split <;> simp
  · rfl

@[simp] theorem profileSwitch_outside (p : PortId) (old : Profile) (w : Word16) (s : State) :
    (profileSwitch p old w s).outside = s.outside := by
  unfold profileSwitch; dsimp only; split <;> simp

@[simp] theorem disablePort_outside (p : PortId) (w : Word16) (s : State) :
    (disablePort p w s).outside = s.outside := by
  simp [disablePort]

@[simp] theorem applyActive_outside (p : PortId) (f : Profile) (w : Word16) (s : State) :
    (applyActive p f w s).outside = s.outside := by
  unfold applyActive; dsimp only; split
  · rfl
  · split
    · simp
    · split <;> simp

@[simp] theorem performAction_outside (a : Action) (p : PortId) (s : State) :
    (performAction a p s).outside = s.outside := by
  cases a with
  | none => rfl
  | hold => rfl
  | release => simp [performAction, releaseHold]
  | pulse => simp only [performAction, pulseAction]; split <;> simp
  | stage =>
    simp only [performAction, stageAction]; split
    · rfl
    · split <;> simp
  | keyin e => simp [performAction]
  | stopKeyin => simp only [performAction, stopKeyinAction]; split <;> simp

@[simp] theorem fireComparator_outside (i : ComparatorId) (s : State) :
    (fireComparator i s).outside = s.outside := by
  simp [fireComparator]

@[simp] theorem counterEvent_outside (p : PortId) (ev : CounterEvent) (s : State) :
    (counterEvent p ev s).outside = s.outside := by
  unfold counterEvent; dsimp only
  rw [forEach_reads State.outside (fun i s => fireComparator_outside i s)]
  simp

@[simp] theorem handleMatch_outside (b : Bool) (p : PortId) (i : PatternId) (s : State) :
    (handleMatch b p i s).outside = s.outside := by
  unfold handleMatch; split
  · rfl
  · cases b <;> simp only [reportMatch, stopByMatch] <;> (repeat' split) <;> simp

/-! ### The detector's windows, and placing a cursor -/

@[simp] theorem Detector.opened_level (n : Nat) (b : Bool) (d : Detector) : (d.opened n b).level = b := rfl
@[simp] theorem Detector.opened_runStart (n : Nat) (b : Bool) (d : Detector) :
    (d.opened n b).runStart = d.runStart := rfl
@[simp] theorem Detector.reopened_level (n : Nat) (d : Detector) : (d.reopened n).level = d.level := rfl
@[simp] theorem Detector.closed_window (d : Detector) : d.closed.window = .closed := rfl

/-- An edge is accepted exactly where it leaves the level of the run for at least 32 ticks, in a window
that is open and, where it counts, at least 32 ticks after the run's start (R33, R34). -/
theorem Detector.accepts_iff (d : Detector) (edge held : Nat) (mark : Bool) :
    d.accepts edge mark held = true ↔
      d.level ≠ mark ∧ 32 ≤ held ∧ d.window ≠ .closed ∧
        (d.window = .counting → d.runStart + 32 ≤ edge) := by
  cases h : d.window <;> simp [Detector.accepts, h, Config.glitchFloor, and_assoc]

/-- The cursor that a start or a SEEK target gives is that of its kind and position (R68, R88). -/
theorem startAt_eq {kind : Nat} {x : Pos} {t : Target} (h : target? kind x = some t) (r : Ring) :
    r.startAt kind x = ((r.placeCursor t).1, if (r.placeCursor t).2 then .clamped else .ok) := by
  match kind, h with
  | 0, h => cases h; rfl
  | 1, h => cases h; rfl
  | 2, h =>
    cases h
    simp only [Ring.startAt, Ring.placeCursor, Ring.covers]
    repeat' split
    all_goals simp_all

end Sys2Proof.Machine
end

