-- ==== Sys2Proof/Tests/Slice0.lean ====
section
/-! SUPPORT. Tests: operands that `wellFormed` refuses, single steps of the manual's worked cases, and
for each statement with hypotheses a state and operands that meet them (`witness_…`). -/

namespace Sys2Proof.Tests

open Sys2Proof.Machine

set_option Elab.async false

/-! ### Operands that do not fit -/

def fittingProfile : RawProfile := Profile.default.raw

def fittingMemory (r : ImageRecord) : ConfigMemory := ⟨true, true, 0, 0, [r], []⟩

def resetWith (r : ImageRecord) : Instr := .coldReset ⟨0, false, some (fittingMemory r), false⟩

theorem test_wellFormed_default : (resetWith (.profile 3 fittingProfile)).wellFormed = true := by decide
theorem test_refuses_profile_byte :
    (resetWith (.profile 3 { fittingProfile with tolerance := 256 })).wellFormed = false := by decide
theorem test_refuses_profile_word :
    (resetWith (.profile 3 { fittingProfile with liveQual := 65536 })).wellFormed = false := by decide
theorem test_refuses_profile_rate :
    (resetWith (.profile 3 { fittingProfile with fixedRate := 2 ^ 24 })).wellFormed = false := by decide
theorem test_refuses_profile_list :
    (resetWith (.profile 3 { fittingProfile with rateList := [2 ^ 24] })).wellFormed = false := by decide
theorem test_refuses_profile_port :
    (resetWith (.profile 256 fittingProfile)).wellFormed = false := by decide
theorem test_refuses_station :
    (resetWith (.station ⟨0, 1, 5, 256, 1, 1, 7⟩)).wellFormed = false := by decide
theorem test_refuses_pattern :
    (resetWith (.pattern ⟨0, 1, [], 0, 0, 256, 0, 0, 0, ⟨0, 0⟩⟩)).wellFormed = false := by decide
theorem test_refuses_action :
    (resetWith (.pattern ⟨0, 1, [], 0, 0, 0, 0, 0, 0, ⟨5, 256⟩⟩)).wellFormed = false := by decide
theorem test_refuses_comparator :
    (resetWith (.comparator ⟨0, 1, 256, 0, 0, 0, ⟨0, 0⟩⟩)).wellFormed = false := by decide
theorem test_refuses_keyin_byte :
    (resetWith (.keyin ⟨0, 0, 0, [], 256, 1, 255, ⟨0, 0⟩, 0, 0⟩)).wellFormed = false := by decide
theorem test_refuses_keyin_word :
    (resetWith (.keyin ⟨0, 0, 65536, [], 1, 1, 255, ⟨0, 0⟩, 0, 0⟩)).wellFormed = false := by decide
theorem test_refuses_settings :
    (resetWith (.settings ⟨2, 65536, 0, 0, 0, 10, 0⟩)).wellFormed = false := by decide
theorem test_refuses_allocation :
    (resetWith (.allocation [1, 2])).wellFormed = false := by decide

/-- No row of the table has bits, so no word spells a command. -/
theorem test_no_word_spells_a_command : decodeTableWord 8 1 = none := by decide

/-! ### A small part -/

def managerMac : Mac := 0x020000000001
def guestMac : Mac := 0x020000000002

def manager : Station := ⟨true, managerMac, 3, BitVec.allOnes 32, 8, ⟨true, true, true⟩⟩
/-- A guest may use port 0 alone, has no right, and has a limit of one session. -/
def guest : Station := ⟨true, guestMac, 5, 1, 1, ⟨false, false, false⟩⟩

def fixed : Profile := { Profile.default with enable := true, rateMode := .fixed }
def auto : Profile := { Profile.default with enable := true, runsNeeded := 8 }

def line : Port := { Port.reset true true with state := .live, active := fixed }

/-- Port 0 is in LIVE; stations 0 and 1 have a session each, in slots 0 and 1. -/
def base : State :=
  { State.reset with
    ports := State.reset.ports.set 0 line
    stations := (State.reset.stations.set 0 manager).set 1 guest
    sessions := (State.reset.sessions.set 0 ⟨1, some ⟨0, 3, managerMac, 5, none⟩⟩).set 1
      ⟨1, some ⟨1, 5, guestMac, 5, none⟩⟩
    uplink := { State.reset.uplink with receiveOpen := true }
    notice := { State.reset.notice with mask := 0x7FF } }

def onPort0 : Attachment where
  port := 0
  cursor := 0
  credit := 0
  nextMark := 0
  lost := 0
  markLoss := false
  gatherTime := 20
  gather := .stopped
  ip := 0
  lastInput := .ok
  flags := .none
  writerIdle := none

def at0 (s : State) (q : Port → Port) : State := s.modPort 0 q
def attach (s : State) (k : SlotId) (a : Attachment) : State :=
  s.modSession k fun x => { x with live := x.live.map fun l => { l with attachment := some a } }

/-- The manager's session watches port 0. -/
def watching : State := attach base 0 onPort0
/-- The manager's session holds the keyboard of port 0. -/
def writing : State := at0 watching fun q => { q with writer := some 0 }

def frameOf (kind : Byte) (body : List Byte) : RxFrame :=
  ⟨false, managerMac, frameData kind 0 1 7 body⟩
def guestFrame (kind : Byte) (body : List Byte) : RxFrame :=
  ⟨false, guestMac, frameData kind 1 1 7 body⟩

def hears (s : State) (f : RxFrame) : State :=
  { s with uplink := { s.uplink with rxQueue := [f] } }

/-- The state with a request of the manager's session at the head of the receive queue. -/
def ask (kind : Byte) (body : List Byte) (s : State) : State := hears s (frameOf kind body)
def guestAsks (kind : Byte) (body : List Byte) (s : State) : State :=
  hears s (guestFrame kind body)
def manage (op : Byte) (body : List Byte) (s : State) : State := ask 0x10 (op :: body) s

def after (c : Instr) (s : State) : State :=
  match exec c s with
  | .next t => t
  | _ => State.reset

def goes (o : Host.Outcome State Fault Refusal) : Bool :=
  match o with
  | .next _ => true
  | _ => false

theorem next_of_goes {o : Host.Outcome State Fault Refusal} (h : goes o = true) : ∃ t, o = .next t := by
  cases o with
  | next t => exact ⟨t, rfl⟩
  | fault r => cases h
  | refused r => cases h

def result (s : State) : Option Result := (s.uplink.replies.getLast?).map (·.result)

/-! ### Worked cases of the manual, one step each -/

/-- The table of 2.1, the half of 32,768 bit/s rounded up. -/
theorem test_divisors :
    [300, 9600, 32768, 38400, 100000, 115200, 1152000].map divisorOf =
      [61440, 1920, 563, 480, 184, 160, 16] := by decide
theorem test_achieved_rates : [590, 563, 184, 74].map achievedRate = [31240, 32738, 100173, 249081] := by
  decide

/-- 2.4: the eighth counted run ends at tick 17,467 with M = 951, and 38,400 bit/s is chosen. -/
def counting : State := at0 base fun q => { q with
  state := .detecting, active := auto
  detector := ⟨.counting, some 2000, true, 14585, 7, some 951⟩ }
theorem test_detection_success :
    let q := (after (.detectorRun 0 ⟨17467, 951⟩ false) counting).port 0
    q.state = .live ∧ q.divisor = 480 ∧ q.rateFound = true := by decide +kernel
/-- 2.4: the mark of 20 ticks at 8,400 is a glitch, so the space run that ends at 9,795 counts as 1,920. -/
theorem test_glitch_is_merged :
    let t := after (.detectorRun 0 ⟨8420, 1375⟩ false) (after (.detectorRun 0 ⟨8400, 20⟩ true)
      (at0 counting fun q => { q with detector := ⟨.counting, some 2000, false, 7875, 2, some 958⟩ }))
    let d := ((after (.detectorRun 0 ⟨9795, 958⟩ true) t).port 0).detector
    (t.port 0).detector.count = 2 ∧ d.runStart = 9795 ∧ d.count = 3 ∧ d.minRun = some 958 := by
  decide +kernel
/-- 2.4: an edge 958 ticks after the discarded run is the first counted run. -/
theorem test_detection_counts :
    ((after (.detectorRun 0 ⟨5958, 958⟩ true) (at0 counting fun q => { q with
      detector := ⟨.counting, some 2000, false, 5000, 0, none⟩ })).port 0).detector.minRun = some 958 := by
  decide +kernel
/-- R32: the level of the run in progress is the line's as the window opens, so that an edge to it ends no
run; an edge seen before the window opened is no run's, but moves the line. -/
theorem test_window_takes_the_line_level :
    let opens (mark : Bool) : State := after (.liveQualification 0)
      (after (.detectorRun 0 ⟨50, 40⟩ mark) (at0 base fun q => { q with
        state := .dead, active := auto, qualTimer := some 0 }))
    let w (mark : Bool) := ((after (.detectorRun 0 ⟨99, 40⟩ true) (opens mark)).port 0).detector.window
    w true = .discarding ∧ w false = .counting := by decide +kernel

/-- 1.3: at 173.6 µs the BREAK is recorded as mark 40 at 7,310. -/
def poweredOff : State := at0 base fun q => { q with
  active := auto, divisor := 160, ring := ⟨7310, [], [], 40⟩ }
theorem test_break_recorded :
    ((after (.breakRecorded 0) poweredOff).port 0).ring.marks = [⟨40, 7310, .breakRx, 0⟩] := by
  decide +kernel
/-- 1.3: at the dead threshold the port enters DEAD, with mark 41. -/
theorem test_dead :
    let q := (after (.deadThreshold 0) (after (.breakRecorded 0) poweredOff)).port 0
    q.state = .dead ∧ q.ring.marks.map (·.kind) = [.breakRx, .dead] := by decide +kernel

/-- 3.7: a byte that overwrites the oldest moves a cursor that stands there and drops mark 12. -/
def overtaking : State :=
  attach (at0 base fun q => { q with
      alloc := 0, ring := ⟨10424, [], [⟨12, 10424, .rateSet, 480⟩, ⟨13, 10425, .writer, 4⟩], 15⟩ }) 0
    { onPort0 with cursor := 10424, credit := 10424, nextMark := 12 }
theorem test_overtaken :
    let a := ((after (.byteStored 0 0x41 true ⟨0, 0, false⟩) overtaking).session 0).attachment
    a.map (fun a => (a.cursor, a.lost, a.nextMark, a.markLoss)) = some (10425, 1, 13, true) := by
  decide +kernel

/-- 5.8, frame 3: X = 252 follows IP = 240, a gap. -/
theorem test_input_gap :
    ((after .input (ask 8 (bytesOf 4 252 ++ [1, 2]) (attach writing 0 { onPort0 with ip := 240 }))).session
      0).attachment.map (fun a => (a.ip, a.lastInput)) = some (240, .gap) := by decide +kernel
/-- 5.8, frame 5: six bytes are skipped and four appended. -/
theorem test_input_overlap :
    let t := after .input (ask 8 (bytesOf 4 250 ++ List.replicate 10 0x41)
      (at0 (attach writing 0 { onPort0 with ip := 256 }) fun q => { q with hold := true }))
    (t.session 0).attachment.map (·.ip) = some 260 ∧ (t.port 0).queue.length = 4 := by decide +kernel

/-- 7.5: the 64th byte sent fires UNA GE 64, which holds the queue. -/
def stuck : State :=
  { (at0 base fun q => { q with
      counters := { Counters.zero with una := 63 }
      queue := [.byte 0x41]
      flight := some ⟨.character 0x41 [], false⟩ }) with
    comparators := State.reset.comparators.set 0 ⟨true, 0, .una, .ge, 64, .hold, false⟩ }
theorem test_una_holds :
    let t := after (.byteSent 0 true) stuck
    (t.port 0).counters.una = 64 ∧ (t.port 0).hold = true ∧ (t.port 0).queue.length = 1 := by
  decide +kernel

/-- 6.7: the byte that completes "panic" is matched with its case folded, and the mark stands after it. -/
def panic : PatternEntry :=
  ⟨some ⟨[0x69, 0x63], none, true, 1, .every, true, .hold⟩, 0,
    (Vector.replicate 32 none).set 0 (some [0x6E, 0x49])⟩
def banner : State := { base with patterns := State.reset.patterns.set 4 panic }
theorem test_match_folds_case :
    let t := after (.byteStored 0 0x43 true ⟨0, 0, false⟩) banner
    (t.patternEntry 4).matchCount = 1 ∧ (t.port 0).hold = true ∧
      (t.port 0).ring.marks = [⟨0, 1, .patternMatch, 4⟩] := by decide +kernel

/-- R136: the count of a byte may come before the watch unit finds its match, and a STAGE fired by it then
empties the window first. -/
def staging (storedAt : Nat) : State :=
  after (.byteStored 0 0x43 true ⟨storedAt, 0, false⟩)
    { (at0 banner fun q => { q with staged := some auto }) with
      comparators := State.reset.comparators.set 0 ⟨true, 0, .rxb, .ge, 1, .stage, false⟩ }
theorem test_count_before_the_finding :
    (((staging 0).patternEntry 4).matchCount, ((staging 1).patternEntry 4).matchCount) = (0, 1) := by
  decide +kernel
/-- R90: the byte overtakes the cursor, which leaves no content, and the MATCH mark drops the first of 16
marks, which sets the mark-loss flag: the timer is loaded afresh. -/
def lossy : State :=
  attach (at0 banner fun q => { q with
      alloc := 1, ring := ⟨1024, List.replicate 1024 0,
        (List.range 16).map fun n => ⟨BitVec.ofNat 16 n, 1024, .live, 0⟩, 16⟩ }) 0
    { onPort0 with credit := 1, gather := .expired }
theorem test_gather_is_loaded_afresh :
    ((after (.byteStored 0 0x43 true ⟨0, 0, false⟩) lossy).session 0).attachment.map (fun a =>
      (a.cursor, a.markLoss, a.gather)) = some (1, true, .running 20) := by decide +kernel

/-- 8.9: the end of a pulse starts the armed entry, whose first item is its BREAK of 100 ms. -/
def armed : State :=
  { (at0 base fun q => { q with active := { fixed with auxA := .resetLow }, pulse := some 0 }) with
    keyins := State.reset.keyins.set 2
      ⟨0, 10, [], 0, 15, some 20, .pulseEnd, true, true, .armed, none⟩ }
theorem test_pulse_end_starts_a_run :
    let t := after (.pulseTimerExpiry 0) armed
    (t.keyin 2).isRunning = true ∧ (t.port 0).flight = some ⟨.breakSpace 100, true⟩ := by decide +kernel
theorem test_break_item_then_interval :
    ((after (.breakTokenEnd 0) (after (.pulseTimerExpiry 0) armed)).keyin 2).run?.map (·.interval) =
      some (some 150) := by decide +kernel

/-- 5.5: a frame cut by its ninth mark carries 450 bytes and marks 40 to 47. -/
def tenMarks : List Mark :=
  [⟨40, 5000, .live, 0⟩, ⟨41, 5010, .live, 0⟩, ⟨42, 5010, .live, 0⟩, ⟨43, 5100, .live, 0⟩,
   ⟨44, 5200, .live, 0⟩, ⟨45, 5200, .live, 0⟩, ⟨46, 5300, .live, 0⟩, ⟨47, 5400, .live, 0⟩,
   ⟨48, 5450, .live, 0⟩, ⟨49, 5500, .live, 0⟩]
def cutFrame : State :=
  attach (at0 base fun q => { q with ring := ⟨5600, List.replicate 600 0x41, tenMarks, 50⟩ }) 0
    { onPort0 with cursor := 5000, credit := 7000, nextMark := 40, gather := .expired }
theorem test_frame_cut_by_marks :
    ((after .dataTurn cutFrame).session 0).attachment.map (fun a => (a.cursor, a.nextMark, a.gather)) =
      some (5450, 48, .running 20) := by decide +kernel

/-- 9.7: a raise of an event cause that the mask leaves out is discarded. -/
theorem test_mask_discards :
    (raise .breakRx (some 0) 0 { base with notice := { base.notice with mask := 0x005 } }).notice.queue =
      [] := by decide +kernel
/-- R182: a REPLY to PROBE starts with version 1 and kind 0x81, and echoes the tag. -/
theorem test_reply_layout :
    (Reply.data ⟨managerMac, 0xFF, 0, 7, 1, .ok, none, []⟩).take 12 =
      [1, 0x81, 0xFF, 0, 0, 4, 0, 7, 1, 0, 0xFF, 0] := by decide
/-- R181: a frame whose FCS is bad is counted and dropped. -/
theorem test_bad_fcs : (after (.frameReceive [] true) base).uplink.counters.rxBadFcs = 1 := by
  decide +kernel
theorem test_open_replies_ok : result (after .openSession (ask 2 [] base)) = some .ok := by decide +kernel
theorem test_guest_has_one_session :
    result (after .openSession (guestAsks 2 [] base)) = some .limit := by decide +kernel
/-- R185, R183: the image that a save leaves is good and is read back record by record. -/
theorem test_saved_image_is_read (s : State) (records : List ImageRecord)
    (h : s.memory = savedMemory records) :
    loadImage false s = forEach lateSteps (loadStep records)
      (applyCommission false (forEach earlySteps (loadStep records) s)) := by
  simp [loadImage, h, (savedMemory_good records).1, (savedMemory_good records).2]
theorem test_saved_records_load :
    let records := base.imageRecords
    let t := forEach allPorts startPort (forEach lateSteps (loadStep records)
      (forEach earlySteps (loadStep records) State.reset))
    (t.station 1).address = guestMac ∧ (t.port 0).state = .live := by decide +kernel
/-- R80, R81: an idle timer with time left does not expire. -/
theorem test_restarted_idle_timers :
    ((after (.sessionIdleExpiry 0) watching).session 0).live.isSome ∧
    ((after (.writerIdleExpiry 0) (attach writing 0 { onPort0 with writerIdle := some 1 })).port 0).writer =
      some 0 := by decide +kernel
theorem test_warm_restart_keeps_generations :
    ((after .warmRestart (manage 0x13 [] base)).session 0) = ⟨1, none⟩ := by decide +kernel

/-! ### Witnesses: states and operands that meet the hypotheses of the statements -/

/-- A state rich enough for the invariants: a writer and a session that waits, a queue, bytes and a
mark in the ring, a match window, a run with an item in flight, a queued notice. -/
def rich : State :=
  { (attach (attach (at0 base fun q => { q with
        alloc := 1, ring := ⟨3, [1, 2, 3], [⟨7, 2, .live, 0⟩], 8⟩
        writer := some 0, waitList := [1], queue := [.byte 0x41], pulse := none
        flight := some ⟨.character 0x41 [false], true⟩ }) 0
      { onPort0 with cursor := 1, credit := 9, nextMark := 7, gather := .running 20, writerIdle := some 600000 }) 1
      { onPort0 with cursor := 3, credit := 9, nextMark := 8 }) with
    patterns := State.reset.patterns.set 4 panic
    keyins := State.reset.keyins.set 2 ⟨0, 10, [0x41], 1, 15, none, .request, true, true,
      .running ⟨3, some 1, 1, 1, true, none, none, false⟩, none⟩
    notice := { base.notice with queue := [⟨.lineDead, some 0, 0, 3, 1, some .dead, none⟩] } }

/-- The same with a command in front of the queue. -/
def next : State := rich.pushFront (.byteStored 0 0x63 true ⟨0, 0, false⟩)

theorem witness_StepTakesTheFrontCommand : State.reset.pending = [] := by decide
theorem witness_DivisorsAndStoredValuesStayInRange :
    next.divisorsLegal ∧ next.profilesInRange ∧ next.settingsLegal ∧ next.queuesBounded ∧
      goes (step next) := by
  repeat' apply And.intro
  all_goals decide +kernel
theorem witness_LinesAndAllocationsStaySound :
    next.linesConsistent ∧ next.allocationSound ∧ goes (step next) := by
  repeat' apply And.intro
  all_goals decide +kernel
theorem witness_RingsAndMarksStaySound : next.storeSound ∧ goes (step next) := by
  repeat' apply And.intro
  all_goals decide +kernel
theorem witness_CursorsStayInTheirRings : next.deliverySound ∧ goes (step next) := by
  repeat' apply And.intro
  all_goals decide +kernel
theorem witness_GatherTimersFollowTheContent : next.settled ∧ goes (step next) := by
  repeat' apply And.intro
  all_goals decide +kernel
theorem witness_WritersAndWaitListsStaySound :
    next.writersSound ∧ next.queuesSound ∧ goes (step next) := by
  repeat' apply And.intro
  all_goals decide +kernel
theorem witness_SessionsStayWithinTheirLimits : next.sessionsCounted ∧ goes (step next) := by
  repeat' apply And.intro
  all_goals decide +kernel
theorem witness_MatchWindowsStaySound : next.patternsSound ∧ goes (step next) := by
  repeat' apply And.intro
  all_goals decide +kernel
theorem witness_KeyinRunsStaySound : next.keyinSound ∧ goes (step next) := by
  repeat' apply And.intro
  all_goals decide +kernel
theorem witness_NoticeQueueStaysSound : next.notice.sound ∧ goes (step next) := by
  repeat' apply And.intro
  all_goals decide +kernel

theorem witness_RingBytesChangeOnlyByStoring :
    rewritesRing (.breakRecorded 0) 0 = false ∧ goes (exec (.breakRecorded 0) rich) := by
  repeat' apply And.intro
  all_goals decide +kernel
theorem witness_CountersChangeOnlyAtTheirEvents :
    CounterId.txb ∉ countersTouched (.byteStored 0 0x63 true ⟨0, 0, false⟩) 0 ∧
      goes (exec (.byteStored 0 0x63 true ⟨0, 0, false⟩) rich) := by
  repeat' apply And.intro
  all_goals decide +kernel
theorem witness_TablesChangeOnlyAtTheirWrites :
    isColdReset (.byteStored 0 0x63 true ⟨0, 0, false⟩) = false ∧
      goes (exec (.byteStored 0 0x63 true ⟨0, 0, false⟩) rich) ∧
      (∀ p : PortId, (rich.port p).staged = none) := by
  repeat' apply And.intro
  all_goals decide +kernel
theorem witness_LineEventsActOnTheirPortAlone :
    lineEventPort (.breakRecorded 0) = some 0 ∧ watching.settled ∧ watching.comparatorsOff ∧
      watching.keyinsIdle ∧ watching.patternsStartNothing ∧ goes (exec (.breakRecorded 0) watching) ∧
      watching.attachedTo 0 0 = true ∧ watching.attachedTo 1 0 = false := by
  repeat' apply And.intro
  all_goals decide +kernel

theorem witness_LayoutsReadBack :
    fittingProfile.fits ∧ (manager.raw 15).fits ∧ (panic.raw 63).fits ∧
      (Comparator.reset.raw 15).fits ∧ (KeyinEntry.reset.raw 15).fits := by decide
theorem witness_SavedEntriesLoadBack :
    (fixed.inRange ∧ (fixed.enable → 1 ≤ 1)) ∧
    (manager.rank ≤ 7 ∧ 1 ≤ manager.limit ∧ manager.limit ≤ 8 ∧
      (manager.valid → individual manager.address ∧ State.reset.addressTaken 15 manager.address = false)) ∧
    (panic.pattern = some ⟨[0x69, 0x63], none, true, 1, .every, true, .hold⟩ ∧
      1 ≤ ([0x69, 0x63] : List Byte).length ∧ ([0x69, 0x63] : List Byte).length ≤ 24) ∧
    (let w : KeyinEntry := ⟨0, 255, [], 255, 1, none, .after 1, true, true, .idle, none⟩
     w.string.length ≤ 48 ∧ w.repeats ≤ 255 ∧ (w.repeats = 0 → w.stopPattern ≠ none) ∧
      w.trigger ≠ .after 0 ∧ w.hasContent ∧ w.preBreak ≤ 255 ∧ 1 ≤ w.interval ∧ w.interval ≤ 255) := by
  dsimp only
  repeat' apply And.intro
  all_goals decide +kernel

/-- Every clause of the filter: frames of 63, 64, 1,518 and 1,519 bytes, and the two queue lengths. -/
theorem witness_ReceiveFilter :
    ([0, 0, 0, 0] : List Byte).length = 4 ∧
    (State.reset.uplink.receiveOpen = false ∧ base.uplink.receiveOpen = true) ∧
    [45, 46, 1500, 1501].map (fun n =>
      (encMac base.uplink.address ++ encMac managerMac ++ bytesOf 2 0x88B6 ++
        List.replicate n (0 : Byte) ++ [0, 0, 0, 0]).length) = [63, 64, 1518, 1519] ∧
    (managerMac.getLsbD 40 = false ∧ (0x88B6 : Word16) = base.uplink.frameType ∧
      (0x0800 : Word16) ≠ base.uplink.frameType) ∧
    base.uplink.rxQueue.length < 8 ∧
    8 ≤ (List.replicate 8 (frameOf 1 [])).length := by
  repeat' apply And.intro
  all_goals decide +kernel

/-- One frame for each of the five checks, and a queue that lets the engine take it. -/
theorem witness_TakenFrameIsChecked :
    (let f : RxFrame := ⟨false, managerMac, [2]⟩
     (hears base f).oldestFrame = some f ∧ ¬ (f.byteAt 0 = 1 ∧ f.lengthAgrees)) ∧
    (let good (f : RxFrame) : Prop := (hears base f).oldestFrame = some f ∧ f.byteAt 0 = 1 ∧ f.lengthAgrees
     (good (frameOf 0 []) ∧ (frameOf 0 []).kind.toNat < 1) ∧
     (good (frameOf 17 []) ∧ 16 < (frameOf 17 []).kind.toNat) ∧
     (let f := { frameOf 16 [] with broadcast := true }
      good f ∧ f.kind.toNat = 16 ∧ f.broadcast ∧ f.kind ≠ 1) ∧
     (good (frameOf 1 [5]) ∧ parseRequest (frameOf 1 [5]).kind (frameOf 1 [5]).body = none) ∧
     (let f := { frameOf 3 [] with source := guestMac }
      good f ∧ f.broadcast = false ∧ parseRequest f.kind f.body ≠ none ∧ f.kind ≠ 1 ∧ f.kind ≠ 2 ∧
        (hears base f).handleValid f = false)) := by
  dsimp only
  repeat' apply And.intro
  all_goals decide +kernel

theorem witness_ProbeAnswers :
    (ask 1 [] base).settled ∧ (ask 1 [] base).takes (frameOf 1 []) .probe := by
  repeat' apply And.intro
  all_goals decide +kernel

/-- A notice that is due, and a REPLY that goes before it. -/
def due : State := { base with notice := { base.notice with
  destination := some managerMac, queue := [⟨.lineDead, some 0, 0, 0, 1, some .dead, none⟩] } }
def someReply : Reply := ⟨managerMac, 0xFF, 0, 7, 1, .ok, none, []⟩
theorem witness_TurnsAndTheirTimers :
    ({ due with uplink := { due.uplink with replies := [someReply] } }).uplink.replies = someReply :: [] ∧
    (due.uplink.replies = [] ∧ due.notice.queue ≠ [] ∧ due.notice.destination = some managerMac ∧
      due.notice.timer = none) ∧
    ((attach base 0 { onPort0 with gather := .running 0 }).session 0).attachment =
      some { onPort0 with gather := .running 0 } ∧
    ((watching.session 0).attachment = some onPort0 ∧ onPort0.gather = .stopped) := by
  dsimp only
  repeat' apply And.intro
  all_goals decide +kernel

theorem witness_DataTurnServesTheNextReadySession :
    cutFrame.settled ∧ cutFrame.uplink.replies = [] ∧ cutFrame.noticeDue = false ∧
    (cutFrame.session 0).live.map (·.attachment) =
      some (some { onPort0 with cursor := 5000, credit := 7000, nextMark := 40, gather := .expired }) ∧
    cutFrame.ready 0 ∧
    ∀ j : SlotId, roundDistance cutFrame.uplink.roundRobin j < roundDistance cutFrame.uplink.roundRobin 0 →
      cutFrame.ready j = false := by
  dsimp only
  repeat' apply And.intro
  all_goals decide +kernel

/-- Every slot taken by the manager's station. -/
def crowded : State :=
  { base with sessions := Vector.replicate 64 ⟨1, some ⟨0, 3, managerMac, 5, none⟩⟩ }
theorem witness_OpenServed :
    (let s := hears base { frameOf 2 [] with source := 5 }
     s.settled ∧ s.takes { frameOf 2 [] with source := 5 } .openSession ∧ s.resolve 5 = none) ∧
    (let s := guestAsks 2 [] base
     s.settled ∧ s.takes (guestFrame 2 []) .openSession ∧ s.resolve guestMac = some 1 ∧
      (s.station 1).limit ≤ s.sessionCount 1) ∧
    (let s := guestAsks 2 [] crowded
     s.settled ∧ s.takes (guestFrame 2 []) .openSession ∧ s.resolve guestMac = some 1 ∧
      s.sessionCount 1 < (s.station 1).limit ∧ ∀ k : SlotId, (s.session k).live ≠ none) ∧
    (let s := ask 2 [] base
     s.settled ∧ s.takes (frameOf 2 []) .openSession ∧ s.resolve managerMac = some 0 ∧
      s.sessionCount 0 < (s.station 0).limit ∧ (s.session 2).live = none ∧
      ∀ j : SlotId, j < 2 → (s.session j).live ≠ none) := by
  dsimp only
  repeat' apply And.intro
  all_goals decide +kernel

/-- The guest, of higher rank, attaches to port 0 while the manager writes it, or while nobody does;
and the manager, of lower rank, while the guest writes and the wait list is empty or full. -/
def guestWrites : State := at0 (attach base 1 onPort0) fun q => { q with writer := some 1 }
def fullList : State :=
  { (at0 guestWrites fun q => { q with waitList := [2, 3, 4, 5] }) with
    sessions := Vector.ofFn fun k => if k = 1 then ⟨1, some ⟨1, 5, guestMac, 5, some onPort0⟩⟩
      else ⟨1, some ⟨0, 3, managerMac, 5, if k = 0 then none else some onPort0⟩⟩ }
/-- The session's idle timer has run to its end. -/
def idleOut (k : SlotId) (s : State) : State :=
  s.modSession k fun x => { x with live := x.live.map fun l => { l with idle := 0 } }
theorem witness_SessionsEndQuietly :
    (watching.settled ∧ (watching.session 0).live = some ⟨0, 3, managerMac, 5, some onPort0⟩ ∧
      (watching.port 0).writer ≠ some 0 ∧ (0 : SlotId) ∉ (watching.port 0).waitList) ∧
    ((ask 3 [] watching).settled ∧ (ask 3 [] watching).takes (frameOf 3 []) .closeSession ∧
      (frameOf 3 []).session = 0) ∧
    ((ask 5 [] watching).settled ∧ (ask 5 [] watching).takes (frameOf 5 []) .detach) ∧
    (let s := idleOut 0 watching
     s.settled ∧ (s.session 0).live = some ⟨0, 3, managerMac, 0, some onPort0⟩) ∧
    (let f (kind : Byte) : RxFrame := ⟨false, managerMac, frameData kind 3 1 7 []⟩
     (hears fullList (f 3)).writersSound ∧ (hears fullList (f 3)).takes (f 3) .closeSession ∧
       (f 3).session = 3 ∧ (3 : SlotId) ∈ (fullList.port 0).waitList ∧
       (hears fullList (f 5)).writersSound ∧ (hears fullList (f 5)).takes (f 5) .detach) ∧
    (let s := idleOut 5 fullList
     s.writersSound ∧ (5 : SlotId) ∈ (s.port 0).waitList ∧ (s.session 5).live.map (·.idle) = some 0) ∧
    (∀ l ∈ (watching.session 0).live, l.idle ≠ 0) ∧ (base.session 9).live = none := by
  dsimp only
  repeat' apply And.intro
  all_goals decide +kernel

/-- An ATTACH body of port, role, PREEMPT, WAIT and start, at position 0 with 100 bytes of credit. -/
def attachBody (port role preempt wait start : Byte) : List Byte :=
  [port, role, preempt, wait, start] ++ bytesOf 4 0 ++ bytesOf 2 100 ++ [0]
def attachOf (port role preempt wait start : Nat) : AttachRequest :=
  ⟨port, role, preempt, wait, start, 0, 100, 0⟩
theorem witness_AttachChecksAndWatch :
    (let s := ask 4 (attachBody 32 0 0 0 0) base
     s.settled ∧ s.writersSound ∧ s.takes (frameOf 4 (attachBody 32 0 0 0 0)) (.attach (attachOf 32 0 0 0 0)) ∧
      ¬ attachAllowed (attachOf 32 0 0 0 0)) ∧
    (let refused (port role preempt wait start : Byte) : Prop :=
       let f := frameOf 4 (attachBody port role preempt wait start)
       let r := attachOf port.toNat role.toNat preempt.toNat wait.toNat start.toNat
       (hears base f).settled ∧ (hears base f).writersSound ∧ (hears base f).takes f (.attach r) ∧
         ¬ attachAllowed r
     refused 31 2 0 0 0 ∧ refused 31 0 0 0 3 ∧ refused 31 1 2 0 0 ∧ refused 31 1 0 2 0) ∧
    (let f := guestFrame 4 (attachBody 31 0 0 0 0)
     let s := hears base f
     s.settled ∧ s.writersSound ∧ s.takes f (.attach (attachOf 31 0 0 0 0)) ∧
      attachAllowed (attachOf 31 0 0 0 0) ∧ attachAllowed (attachOf 31 0 2 2 2) ∧
      inSet (s.stationFor f).ports 31 = false) ∧
    (let f := frameOf 4 (attachBody 31 0 0 0 0)
     let s := hears base f
     s.settled ∧ s.writersSound ∧ s.takes f (.attach (attachOf 31 0 0 0 0)) ∧
      inSet (s.stationFor f).ports 31 = true ∧ (s.port 31).state = .disabled) ∧
    (let f := frameOf 4 (attachBody 0 0 0 0 1)
     attachAllowed (attachOf 0 0 0 0 1) ∧
     ((hears watching f).settled ∧ (hears watching f).writersSound ∧
      (hears watching f).takes f (.attach (attachOf 0 0 0 0 1)) ∧
      ((hears watching f).session f.session).attachment ≠ none) ∧
     ((hears base f).settled ∧ (hears base f).writersSound ∧
      (hears base f).takes f (.attach (attachOf 0 0 0 0 1)) ∧
      ((hears base f).session f.session).attachment = none ∧ ((hears base f).port 0).state ≠ .disabled)) := by
  dsimp only
  repeat' apply And.intro
  all_goals decide +kernel

/-- The guest writes with its idle timer at 0 while four sessions of the manager wait. -/
def idleWriter : State := idleOut 1 (attach fullList 1 { onPort0 with writerIdle := some 0 })
theorem witness_WriterReleasePromotes :
    (idleWriter.writersSound ∧ (idleWriter.port 0).writer = some 1 ∧
      (idleWriter.session 1).live.map (·.idle) = some 0 ∧
      (idleWriter.session 1).attachment.map (·.writerIdle) = some (some 0) ∧
      (idleWriter.port 0).waitList.tail = [3, 4, 5]) ∧
    (idleWriter.notice.mask.getLsbD 8 ∧ idleWriter.notice.queue = []) ∧
    (let s := guestAsks 3 [] idleWriter
     s.writersSound ∧ s.takes (guestFrame 3 []) .closeSession ∧ (guestFrame 3 []).session = 1) ∧
    (let s := guestAsks 5 [] idleWriter
     s.writersSound ∧ s.takes (guestFrame 5 []) .detach) ∧
    (rich.isWriter 1 = false ∧
      (rich.session 0).attachment.map (·.writerIdle) ≠ some (some 0)) := by
  dsimp only
  repeat' apply And.intro
  all_goals decide +kernel

/-- The manager writes in slot 2 and waits in slots 3 and 4; the guest's session is not attached. -/
def managerList : State :=
  { (at0 base fun q => { q with writer := some 2, waitList := [3, 4] }) with
    sessions := Vector.ofFn fun k => if k = 1 then ⟨1, some ⟨1, 5, guestMac, 5, none⟩⟩
      else ⟨1, some ⟨0, 3, managerMac, 5, if k = 0 then none else some onPort0⟩⟩ }
theorem witness_AttachContendsForTheKeyboard :
    (let r := attachOf 0 1 1 1 0
     let meets (s : State) (f : RxFrame) : Prop :=
       (hears s f).writersSound ∧ (hears s f).takes f (.attach r) ∧ attachAllowed r ∧ r.role = 1 ∧
         inSet ((hears s f).stationFor f).ports 0 ∧ (s.port 0).state ≠ .disabled ∧
         (s.session f.session).attachment = none
     (meets base (frameOf 4 (attachBody 0 1 1 1 0)) ∧ (base.port 0).writer = none) ∧
     (meets writing (guestFrame 4 (attachBody 0 1 1 1 0)) ∧ (writing.port 0).writer = some 0 ∧
       writing.rankOf 0 < writing.rankOf 1) ∧
     (meets guestWrites (frameOf 4 (attachBody 0 1 1 1 0)) ∧ (guestWrites.port 0).writer = some 1 ∧
       ¬ guestWrites.rankOf 1 < guestWrites.rankOf 0 ∧ (guestWrites.port 0).waitList.length < 4) ∧
     (meets fullList (frameOf 4 (attachBody 0 1 1 1 0)) ∧ ¬ fullList.rankOf 1 < fullList.rankOf 0 ∧
       ¬ (fullList.port 0).waitList.length < 4)) ∧
    (let f := frameOf 4 (attachBody 0 1 0 0 0)
     (hears guestWrites f).writersSound ∧ (hears guestWrites f).takes f (.attach (attachOf 0 1 0 0 0)) ∧
       attachAllowed (attachOf 0 1 0 0 0)) ∧
    (let f := guestFrame 4 (attachBody 0 1 0 1 0)
     (hears managerList f).writersSound ∧ (hears managerList f).takes f (.attach (attachOf 0 1 0 1 0)) ∧
       attachAllowed (attachOf 0 1 0 1 0) ∧
       (managerList.port 0).waitList.filter (fun j => managerList.rankOf j < managerList.rankOf 1) = [3, 4]) ∧
    (base.notice.mask.getLsbD 8 ∧ base.notice.queue = []) := by
  dsimp only
  repeat' apply And.intro
  all_goals decide +kernel

/-- A ring of the positions 5 to 7, watched. -/
def seeking : State := at0 watching fun q => { q with alloc := 1, ring := ⟨8, [1, 2, 3], [], 0⟩ }
def seekBody (kind : Byte) (x : Nat) : List Byte := kind :: bytesOf 4 x
theorem witness_CreditAndSeekServed :
    (let s := ask 7 (bytesOf 4 9) base
     s.settled ∧ s.takes (frameOf 7 (bytesOf 4 9)) (.credit 9) ∧ (s.session 0).attachment = none) ∧
    (let s := ask 7 (bytesOf 4 9) watching
     s.settled ∧ s.takes (frameOf 7 (bytesOf 4 9)) (.credit 9) ∧ (s.session 0).attachment = some onPort0) ∧
    (let meets (s : State) (k : Byte) (x : Nat) : Prop := (ask 6 (seekBody k x) s).settled ∧
       (ask 6 (seekBody k x) s).takes (frameOf 6 (seekBody k x)) (.seek k.toNat (BitVec.ofNat 32 x))
     meets base 2 0 ∧ (base.session 0).attachment = none ∧
     meets seeking 3 0 ∧ meets seeking 0 0 ∧ meets seeking 1 0 ∧ meets seeking 2 5 ∧ meets seeking 2 8 ∧
     meets seeking 2 4 ∧ meets seeking 2 9 ∧ (seeking.session 0).attachment = some onPort0) ∧
    (let r := (seeking.port 0).ring
     (atOrBefore r.oldest 5 && atOrBefore 5 r.head) ∧ (atOrBefore r.oldest 8 && atOrBefore 8 r.head) ∧
     ((atOrBefore r.oldest 4 && atOrBefore 4 r.head) = false ∧ precedes r.head 4 = false) ∧
     ((atOrBefore r.oldest 9 && atOrBefore 9 r.head) = false ∧ precedes r.head 9)) := by
  dsimp only
  repeat' apply And.intro
  all_goals decide +kernel

theorem witness_InputIsSetAgainstTheStream :
    (let b := bytesOf 4 0 ++ [0x41, 0x42]
     let f := frameOf 8 b
     let meets (s : State) : Prop := (ask 8 b s).settled ∧ (ask 8 b s).takes f (.input 0 [0x41, 0x42])
     (meets base ∧ (base.session 0).attachment = none) ∧
     (meets watching ∧ (watching.session 0).attachment = some onPort0 ∧ (watching.port 0).writer ≠ some 0) ∧
     (let s := at0 writing fun q => { q with state := .disabled }
      meets s ∧ (s.port 0).writer = some 0 ∧ (s.port 0).state = .disabled) ∧
     (meets writing ∧ (writing.port 0).state ≠ .disabled ∧ atOrBefore 0 onPort0.ip ∧
       (onPort0.ip - 0).toNat < 2) ∧
     (let a := { onPort0 with ip := 2 }
      let s := attach writing 0 a
      meets s ∧ (s.session 0).attachment = some a ∧ atOrBefore 0 a.ip ∧ 2 ≤ (a.ip - 0).toNat) ∧
     (let a := { onPort0 with ip := 0xFFFFFFFF }
      let s := attach writing 0 a
      meets s ∧ (s.session 0).attachment = some a ∧ atOrBefore 0 a.ip = false)) := by
  dsimp only
  repeat' apply And.intro
  all_goals decide +kernel

theorem witness_BreakAndReleaseServed :
    ((ask 9 [] watching).settled ∧ (ask 9 [] watching).takes (frameOf 9 []) .breakRequest ∧
      (ask 9 [] watching).isWriter 0 = false) ∧
    ((ask 9 [] writing).settled ∧ (ask 9 [] writing).takes (frameOf 9 []) .breakRequest ∧
      (writing.session 0).attachment = some onPort0 ∧ (writing.port 0).writer = some 0 ∧
      (writing.port 0).state ≠ .disabled ∧ (writing.port 0).queue.length < 256) ∧
    (let s := at0 writing fun q => { q with state := .disabled }
     (ask 9 [] s).settled ∧ (ask 9 [] s).takes (frameOf 9 []) .breakRequest ∧ (s.port 0).state = .disabled) ∧
    (let s := at0 writing fun q => { q with queue := List.replicate 256 .breakToken }
     (ask 9 [] s).settled ∧ (ask 9 [] s).takes (frameOf 9 []) .breakRequest ∧ 256 ≤ (s.port 0).queue.length) ∧
    ((ask 10 [32] writing).settled ∧ (ask 10 [32] writing).takes (frameOf 10 [32]) (.release 32)) ∧
    ((ask 10 [0] writing).settled ∧ (ask 10 [0] writing).takes (frameOf 10 [0]) (.release 0) ∧
      (ask 10 [0] writing).onPort 0 0) ∧
    (let s := guestAsks 10 [31] base
     s.settled ∧ s.takes (guestFrame 10 [31]) (.release 31) ∧ (s.port 31).writer ≠ some 1 ∧
      (s.stationFor (guestFrame 10 [31])).rights.manage = false) := by
  dsimp only
  repeat' apply And.intro
  all_goals decide +kernel

/-- A port with a reset line. -/
def pulsing (pulse : Option Nat) : State := at0 base fun q => { q with
  active := { fixed with auxA := .resetHigh }, pulse := pulse }
/-- A manager that may use port 0 alone. -/
def narrow (s : State) : State := { s with stations := s.stations.set 0 { manager with ports := 1 } }
theorem witness_PulseStartsAndEnds :
    (let meets (s : State) (n : Byte) : Prop := (ask 11 [n] s).settled ∧
       (ask 11 [n] s).takes (frameOf 11 [n]) (.pulse n.toNat) ∧
       ((ask 11 [n] s).stationFor (frameOf 11 [n])).rights.pulse
     meets base 32 ∧ meets (narrow base) 31 ∧ meets base 31 ∧ meets base 0 ∧ meets (pulsing (some 5)) 0 ∧
     meets (pulsing none) 0 ∧ inSet (narrow base).stations[0].ports 31 = false ∧
     (base.port 31).state = .disabled ∧ (base.port 0).active.auxA = .none) ∧
    (let s := guestAsks 11 [0] base
     s.settled ∧ s.takes (guestFrame 11 [0]) (.pulse 0) ∧
       (s.stationFor (guestFrame 11 [0])).rights.pulse = false) ∧
    (((pulsing none).port 0).pulse = none ∧ ((pulsing (some 0)).port 0).pulse ≠ none ∧
      (pulsing (some 0)).keyinsIdle) ∧
    (let fits (s : State) : Prop := (s.port 0).pulse ≠ none ∧ (s.keyin 2).state = .armed ∧
       (s.keyin 2).trigger = .pulseEnd ∧ (s.keyin 2).port = 0 ∧ (s.keyin 2).hasContent = true ∧
       s.othersIdle [2]
     (fits armed ∧ (armed.port 0).flight = none ∧ (armed.port 0).maySend) ∧
     (let s := at0 armed fun q => { q with flight := some ⟨.breakSpace 5, false⟩ }
      fits s ∧ (s.port 0).flight ≠ none) ∧
     (let s := at0 armed fun q => { q with state := .dead }
      fits s ∧ (s.port 0).state = .dead) ∧
     (let s := at0 armed fun q => { q with state := .disabled }
      fits s ∧ (s.port 0).state = .disabled)) := by
  dsimp only
  repeat' apply And.intro
  all_goals decide +kernel

/-- A sense line that has seen n differing samples of the three that change the level. -/
def sensing (n : Nat) : State := at0 base fun q => { q with
  active := { fixed with auxB := .sense }, sense := ⟨true, n, some 10⟩ }
theorem witness_SenseIsQualified :
    ¬ ((base.port 0).active.auxB = .sense ∧ (base.port 0).state ≠ .disabled) ∧
    (let q := (sensing 1).port 0
     (sensing 1).settled ∧ q.active.auxB = .sense ∧ q.state ≠ .disabled ∧ q.sense.active = !false ∧
       q.sense.active = true ∧ q.sense.count + 1 < q.active.senseAgree) ∧
    (let q := (sensing 2).port 0
     q.active.senseAgree ≤ q.sense.count + 1 ∧ (sensing 2).keyinsIdle ∧
       (sensing 2).notice.mask.getLsbD 7 ∧ (sensing 2).notice.queue = []) := by
  dsimp only
  repeat' apply And.intro
  all_goals decide +kernel

/-- The pattern "ic" with the action a, whose window on port 0 the next letter "C" completes. -/
def matching (a : Action) (s : State) : State :=
  { s with patterns := State.reset.patterns.set 4 { panic with
      pattern := some ⟨[0x69, 0x63], none, true, 1, .once, true, a⟩ } }
/-- The letter "C" stored on port 0 completes one match there, of a pattern with the action a. -/
abbrev oneMatch (a : Action) (s : State) : Prop :=
  (s.port 0).state = .live ∧ s.comparatorsOff ∧
    (s.patternEntry 4).pattern = some ⟨[0x69, 0x63], none, true, 1, .once, true, a⟩ ∧
    (s.pushByte 0 0x43).matchSet 0 = [4]
/-- The same, with every key-in entry IDLE. -/
abbrev quietMatch (a : Action) (s : State) : Prop := oneMatch a (matching a s) ∧ (matching a s).keyinsIdle
def staged (f : Profile) (s : State) : State := at0 s fun q => { q with staged := some f }
def fixedSwitch : Profile := { fixed with txBreak := 3 }
/-- Entry 2, on port 0, in the given state, with pattern 4 for its trigger and its stop pattern. -/
def entryTwo (k : KeyinState) (s : State) : State :=
  { s with
    keyins := State.reset.keyins.set 2
      ⟨0, 10, [0x41], 1, 15, some 4, .patternMatch 4, true, true, k, none⟩ }
/-- The same without a trigger. -/
def runningTwo (k : KeyinState) (s : State) : State :=
  { s with keyins := State.reset.keyins.set 2 ⟨0, 10, [0x41], 1, 15, some 4, .request, true, true, k, none⟩ }
theorem witness_StoringAByte :
    (base.port 1).state ≠ .live ∧ (base.port 0).state = .live ∧
    (base.notice.mask.getLsbD 3 ∧ base.notice.queue = []) ∧
    (quietMatch .none base ∧ quietMatch .stopKeyin base ∧ quietMatch .hold base ∧ quietMatch .release base) ∧
    (quietMatch .pulse base ∧ (base.port 0).active.auxA = .none ∧
      quietMatch .pulse (pulsing none) ∧ ((pulsing none).port 0).active.auxA ≠ .none ∧
      ((pulsing none).port 0).pulse = none) ∧
    (quietMatch .stage base ∧ (base.port 0).staged = none ∧ (base.port 0).alloc ≠ 0 ∧
      quietMatch .stage (staged auto base) ∧ auto ≠ (base.port 0).active ∧ auto.enable = true ∧
      quietMatch .stage (staged fixedSwitch base) ∧ quietMatch .stage (staged (base.port 0).active base) ∧
      quietMatch .stage (staged Profile.default base) ∧ Profile.default.enable = false ∧
      (let s := at0 (staged auto base) fun q => { q with alloc := 0 }
       quietMatch .stage s ∧ (s.port 0).alloc = 0)) ∧
    (quietMatch (.keyin 0) base ∧ (base.keyin 0).hasContent = false) ∧
    (let s := entryTwo .idle base
     quietMatch (.keyin 2) s ∧ (s.keyin 2).hasContent = true ∧ (s.port 0).state ≠ .dead) ∧
    (let s := { base with
       ports := base.ports.set 1 { line with state := .dead }
       keyins := State.reset.keyins.set 2 ⟨1, 10, [], 1, 15, none, .request, true, true, .idle, none⟩ }
     quietMatch (.keyin 2) s ∧ (s.keyin 2).hasContent = true ∧ (s.port (s.keyin 2).port).state = .dead) ∧
    (let s := matching .none (entryTwo .armed base)
     oneMatch .none s ∧ s.othersIdle [2] ∧ (s.keyin 2).state = .armed ∧ (s.keyin 2).hasContent) ∧
    (let meets (a : Action) (r : Run) : Prop :=
       let s := matching a (runningTwo (.running r) base)
       oneMatch a s ∧ s.othersIdle [2] ∧ (s.keyin 2).stopPattern = some 4 ∧ r.stop = none ∧
         (s.keyin 2).trigger ≠ .patternMatch 4
     meets .none (.initial 0 1) ∧ meets .stopKeyin (.initial 0 1) ∧
       meets .none { Run.initial 0 1 with inFlight := true }) := by
  dsimp only
  repeat' apply And.intro
  all_goals decide +kernel
/-- Comparator 15 alone is enabled, on a counter of port 0, with the given last condition. -/
def watched (c : CounterId) (m : Method) (v : Word32) (a : Action) (last : Bool) (s : State) : State :=
  { s with comparators := State.reset.comparators.set 15 ⟨true, 0, c, m, v, a, last⟩ }
/-- Entry 2, of port 0 or another, with comparator 15 for its trigger, and in the given state. -/
def triggered (p : PortId) (k : KeyinState) (s : State) : State :=
  { s with
    keyins := State.reset.keyins.set 2
      ⟨p, 10, [0x41], 1, 15, none, .compare 15, true, true, k, none⟩ }
/-- Each action, and each case of it, of the one comparator of the states made by w. -/
abbrev everyFiring (w : Action → State → State) : Prop :=
  let quiet (a : Action) (s : State) : Prop := (w a s).keyinsIdle ∧ (w a s).onlyEnabled 15 ∧
    (w a s).notice.mask.getLsbD 4 ∧ (w a s).notice.queue = []
  let one (s : State) : Prop := s.onlyEnabled 15 ∧ s.othersIdle [2]
  (quiet .none base ∧ quiet .stopKeyin base ∧ quiet .hold base ∧ quiet .release base ∧
    quiet .pulse base ∧ (base.port 0).active.auxA = .none ∧ quiet .pulse (pulsing none) ∧
    ((pulsing none).port 0).active.auxA ≠ .none ∧ ((pulsing none).port 0).pulse = none) ∧
  (quiet .stage base ∧ (base.port 0).staged = none ∧ quiet .stage (staged auto base) ∧
    auto ≠ (base.port 0).active ∧ auto.enable = true ∧ (base.port 0).alloc ≠ 0 ∧
    quiet .stage (staged (base.port 0).active base) ∧ quiet .stage (staged Profile.default base)) ∧
  (quiet (.keyin 0) base ∧ (base.keyin 0).hasContent = false ∧
    quiet (.keyin 2) (triggered 0 .idle base) ∧ ((triggered 0 .idle base).keyin 2).hasContent = true) ∧
  (one (w .none (triggered 0 .armed base)) ∧ one (w .none (triggered 31 .armed base)) ∧
    (base.port 31).state = .disabled) ∧
  one (w .stopKeyin (runningTwo (.running (.initial 0 1)) base)) ∧
  one (w .stopKeyin (runningTwo (.running { Run.initial 0 1 with inFlight := true }) base))
theorem witness_FramingErrorsAndBreaks :
    ¬ ((base.port 1).state = .live ∧ (base.port 1).breakSeen = false) ∧
    ((base.port 0).state = .live ∧ (base.port 0).breakSeen = false ∧ base.comparatorsOff) ∧
    everyFiring (fun a => watched .fer .ge 1 a false) ∧
    (1 : Word32).toNat ≤ (satInc (base.port 0).counters.fer).toNat ∧
    (watched .fer .ge 1 .hold true base).onlyEnabled 15 ∧ (watched .fer .ge 2 .hold false base).onlyEnabled 15 ∧
    ¬ (2 : Word32).toNat ≤ (satInc (base.port 0).counters.fer).toNat := by
  repeat' apply And.intro
  all_goals decide +kernel

/-- A run on port 0, with its next item to start. -/
def running (r : Run) (s : State) : State := { s with
  keyins := State.reset.keyins.set 2 ⟨0, 10, [0x41], 1, 15, none, .request, true, true, .running r, none⟩ }
def freshRun : Run := .initial 0 1
theorem witness_EnteringDead :
    base.comparatorsOff ∧ (base.port 1).state ≠ .live ∧ (base.port 1).state ≠ .detecting ∧
    ((base.port 0).state = .live ∧ (base.port 0).breakSeen = false ∧ base.runningOn 0 = none) ∧
    ((counting.port 0).state = .detecting ∧ counting.comparatorsOff) ∧
    ((running freshRun base).comparatorsOff ∧ (running freshRun base).runningOn 0 = some 2) ∧
    base.notice.queue.length ≤ 30 := by
  repeat' apply And.intro
  all_goals decide +kernel

/-- A port in DEAD whose line is back at mark. -/
def quiet (f : Profile) : State := at0 base fun q => { q with
  state := .dead, active := f, qualTimer := some 0 }
/-- A port in SWITCHING with its transmitter idle. -/
def switching (f : Profile) : State := at0 base fun q => { q with state := .switching, active := f }
theorem witness_PortsLeaveDeadAndSwitching :
    ¬ ((base.port 0).state = .dead ∧ (base.port 0).qualTimer ≠ none) ∧
    (((quiet auto).port 0).state = .dead ∧ ((quiet auto).port 0).qualTimer ≠ none ∧
      ((quiet auto).port 0).active.rateMode = .auto ∧ ((quiet auto).port 0).active.redetect = true ∧
      (quiet auto).keyinsIdle ∧ (quiet auto).notice.mask.getLsbD 0 ∧ (quiet auto).notice.queue = []) ∧
    ((quiet fixed).port 0).active.rateMode ≠ .auto ∧
    (base.settled ∧ (base.port 0).state ≠ .switching) ∧
    (((switching auto).port 0).state = .switching ∧ ((switching auto).port 0).flight = none ∧
      ((switching auto).port 0).active.rateMode = .auto) ∧
    (((switching fixed).port 0).state = .switching ∧ ((switching fixed).port 0).active.rateMode = .fixed ∧
      (switching fixed).keyinsIdle ∧ (switching fixed).notice.mask.getLsbD 2 ∧
      (switching fixed).notice.queue = []) := by
  repeat' apply And.intro
  all_goals decide +kernel

/-- A window on port 0, with n runs counted. -/
def window (w : WindowState) (n : Nat) (m : Option Nat) : State := at0 base fun q => { q with
  state := .detecting, active := auto, detector := ⟨w, some 2000, false, 100, n, m⟩ }
theorem witness_DetectorCountsAndEvaluates :
    (((window .discarding 0 none).port 0).detector.level = false ∧ (base.port 0).state ≠ .detecting ∧
      ((counting.port 0).state = .detecting ∧ (counting.port 0).detector.level = true)) ∧
    ((window .discarding 0 none).settled ∧ ((window .discarding 0 none).port 0).state = .detecting ∧
      ∀ m ∈ ((window .discarding 0 none).port 0).detector.minRun, 0 < 8) ∧
    ((window .counting 6 (some 958)).settled ∧ 100 + 32 ≤ 132 ∧
      6 + 1 < ((window .counting 6 (some 958)).port 0).active.runsNeeded) ∧
    (((window .counting 7 (some 951)).port 0).active.runsNeeded ≤ 7 + 1 ∧
      (38400 : Nat) ∈ auto.rateList ∧ admissible auto.tolerance 951 38400 ∧
      (∀ r' ∈ auto.rateList, admissible auto.tolerance 951 r' →
        rateDistance 951 38400 ≤ rateDistance 951 r' ∧
        (rateDistance 951 38400 = rateDistance 951 r' → r' ≤ 38400)) ∧
      (window .counting 7 (some 951)).keyinsIdle) ∧
    ((window .counting 7 (some 800)).settled ∧
      ∀ r ∈ auto.rateList, admissible auto.tolerance 800 r = false) := by
  repeat' apply And.intro
  all_goals decide +kernel
theorem witness_RateArithmetic :
    (1 : Nat) ≤ 300 ∧ (300 : Nat) ≤ 1152000 ∧
    (((window .counting 7 none).port 0).state = .detecting ∧
      ((window .counting 7 none).port 0).detector.timer ≠ none) ∧
    ¬ ((base.port 0).state = .detecting ∧ (base.port 0).detector.timer ≠ none) := by
  repeat' apply And.intro
  all_goals decide +kernel

/-- The keystroke queue of port 0 holds one byte. -/
def typed (s : State) : State := at0 s fun q => { q with queue := [.byte 0x41] }
/-- Port 0 sends a character, or a BREAK. -/
def sending (g : Signal) : State := at0 base fun q => { q with flight := some ⟨g, false⟩ }
theorem witness_TransmitterChooses :
    ((sending (.breakSpace 5)).settled ∧ ((sending (.breakSpace 5)).port 0).flight ≠ none) ∧
    ((typed base).settled ∧ ((typed base).port 0).flight = none ∧ ((typed base).port 0).state = .live ∧
      ((typed base).port 0).active.flow ≠ .cts ∧ (typed base).runningOn 0 = none ∧
      ((typed base).port 0).hold = false ∧ ((typed base).port 0).queue = .byte 0x41 :: []) ∧
    (base.settled ∧ (base.port 0).queue = []) ∧
    ((running freshRun base).settled ∧ (running freshRun base).runningOn 0 = some 2 ∧
      ((running freshRun base).keyin 2).readyItem = some (.breakItem 100)) ∧
    (let r := { freshRun with interval := some 5 }
     (running r base).settled ∧ (running r base).runningOn 0 = some 2 ∧
       ((running r base).keyin 2).readyItem = none) ∧
    ((at0 base fun q => { q with active := { fixed with auxB := .cts, flow := .cts } }).port 0).active.auxB =
      .cts ∧ (base.port 0).active.auxB ≠ .cts := by
  dsimp only
  repeat' apply And.intro
  all_goals decide +kernel
theorem witness_ItemsEndAtTheTransmitter :
    (((sending (.character 0x41 [false])).port 0).flight = some ⟨.character 0x41 [false], false⟩ ∧
      (sending (.character 0x41 [false])).comparatorsOff ∧ (sending (.character 0x41 [false])).keyinsIdle) ∧
    ((sending (.breakSpace 5)).port 0).flight = some ⟨.breakSpace 5, false⟩ ∧
    (base.port 0).flight = none ∧
    (let meets (place : Nat) (remaining : Option Nat) (stop : Option Outcome) : Prop :=
       let r : Run := { Run.initial 0 1 with
         place := place, remaining := remaining, stop := stop, inFlight := true }
       let s := running r (sending (.character 0x41 [false]))
       s.comparatorsOff ∧ (s.keyin 2).state = .running r ∧ (s.keyin 2).port = 0 ∧ r.interval = none ∧
         s.othersIdle [2] ∧ (s.keyin 2).items.length = 2
     meets 1 (some 1) none ∧ meets 2 (some 1) none ∧ meets 2 (some 2) none ∧ meets 2 none none ∧
       meets 1 (some 2) (some .stoppedByRequest)) ∧
    (let r : Run := { Run.initial 0 1 with place := 2, inFlight := true }
     let s := (running r (sending (.breakSpace 100))).modKeyin 3 fun _ =>
       ⟨0, 10, [], 1, 15, none, .after 2, true, true, .armed, none⟩
     s.comparatorsOff ∧ (s.keyin 2).state = .running r ∧ s.othersIdle [2, 3] ∧
       (s.keyin 3).state = .armed ∧ (s.keyin 3).trigger = .after 2 ∧ (s.keyin 3).hasContent = true ∧
       (s.port 0).state ≠ .disabled ∧ (s.port 0).state ≠ .dead ∧
       (s.port 0).flight = some ⟨.breakSpace 100, false⟩) := by
  dsimp only
  repeat' apply And.intro
  all_goals decide +kernel

theorem witness_MarksAndCausesAreRecorded :
    ((rich.port 0).ring.marks.length < 16) ∧
    ((List.replicate 16 (⟨0, 0, .live, 0⟩ : Mark)) = ⟨0, 0, .live, 0⟩ :: List.replicate 15 ⟨0, 0, .live, 0⟩) ∧
    (Cause.breakRx.isEvent = true ∧ (0x005 : Word32).getLsbD (Cause.breakRx.code - 16) = false) ∧
    (Cause.lineDead.isEvent = false ∧
      rich.notice.queue = [] ++ ⟨.lineDead, some 0, 0, 3, 1, some .dead, none⟩ :: [] ∧ (1 : Nat) ≤ 1) ∧
    ((∀ x ∈ rich.notice.queue, ¬ (x.cause = .lineDead ∧ x.port = some 1 ∧ x.arg = 0)) ∧
      rich.notice.queue.length < 32) ∧
    (let u := (List.range 32).map fun n => (⟨.compare, some 0, BitVec.ofNat 16 n, 0, 1, none, none⟩ : NoticeRecord)
     32 ≤ u.length ∧ ∀ x ∈ u, ¬ (x.cause = .lineDead ∧ x.port = some 1 ∧ x.arg = 0)) := by
  dsimp only
  repeat' apply And.intro
  all_goals decide +kernel

/-- A part whose key-in entry 0 is as given. -/
def withEntry (w : KeyinEntry) : State := { base with keyins := State.reset.keyins.set 0 w }
def idleEntry : KeyinEntry := ⟨0, 10, [], 1, 15, none, .request, true, true, .idle, none⟩
/-- The manager's request with one operand byte is taken, and he has the KEYIN right. -/
abbrev keyinAsked (kind n : Byte) (r : Request) (s : State) : Prop :=
  (ask kind [n] s).settled ∧ (ask kind [n] s).takes (frameOf kind [n]) r ∧
    ((ask kind [n] s).stationFor (frameOf kind [n])).rights.keyin
abbrev guestRefused (kind n : Byte) (r : Request) : Prop :=
  (guestAsks kind [n] base).settled ∧ (guestAsks kind [n] base).takes (guestFrame kind [n]) r ∧
    ((guestAsks kind [n] base).stationFor (guestFrame kind [n])).rights.keyin = false
def elsewhere : State := narrow (withEntry { idleEntry with port := 31 })
theorem witness_ArmServed :
    guestRefused 14 0 (.arm 0) ∧ keyinAsked 14 16 (.arm 16) base ∧
    (keyinAsked 14 0 (.arm 0) elsewhere ∧ inSet (elsewhere.station 0).ports (elsewhere.keyin 0).port = false) ∧
    (keyinAsked 14 0 (.arm 0) base ∧ inSet (base.station 0).ports (base.keyin 0).port ∧
      (base.keyin 0).preBreak = 0 ∧ (base.keyin 0).string = []) ∧
    (keyinAsked 14 0 (.arm 0) (withEntry { idleEntry with state := .pending }) ∧
      ({ idleEntry with state := .pending } : KeyinEntry).engaged) ∧
    keyinAsked 14 0 (.arm 0) (withEntry idleEntry) ∧ keyinAsked 14 15 (.arm 15) base := by
  dsimp only
  repeat' apply And.intro
  all_goals decide +kernel
theorem witness_KeyinStartServed :
    guestRefused 12 0 (.keyinStart 0) ∧ keyinAsked 12 16 (.keyinStart 16) base ∧
    keyinAsked 12 0 (.keyinStart 0) elsewhere ∧
    (keyinAsked 12 0 (.keyinStart 0) base ∧ (base.keyin 0).hasContent = false) ∧
    keyinAsked 12 0 (.keyinStart 0) (withEntry { idleEntry with state := .pending }) ∧
    (let s := withEntry { idleEntry with port := 31 }
     keyinAsked 12 0 (.keyinStart 0) s ∧ (s.port 31).state = .disabled) ∧
    (let s := at0 (withEntry idleEntry) fun q => { q with state := .dead }
     keyinAsked 12 0 (.keyinStart 0) s ∧ (s.port 0).state = .dead) ∧
    (let s := withEntry idleEntry
     keyinAsked 12 0 (.keyinStart 0) s ∧ idleEntry.hasContent ∧ idleEntry.engaged = false ∧
      (s.port 0).state ≠ .disabled ∧ (s.port 0).state ≠ .dead ∧
      ∀ e' : KeyinId, (s.keyin e').engaged → (s.keyin e').port ≠ 0) := by
  dsimp only
  repeat' apply And.intro
  all_goals decide +kernel
theorem witness_KeyinStopAndInterval :
    guestRefused 13 0 (.keyinStop 0) ∧ keyinAsked 13 16 (.keyinStop 16) base ∧
    keyinAsked 13 0 (.keyinStop 0) elsewhere ∧ keyinAsked 13 0 (.keyinStop 0) (withEntry idleEntry) ∧
    keyinAsked 13 0 (.keyinStop 0) (withEntry { idleEntry with state := .armed }) ∧
    keyinAsked 13 0 (.keyinStop 0) (withEntry { idleEntry with state := .pending }) ∧
    (let r := { freshRun with inFlight := true }
     keyinAsked 13 2 (.keyinStop 2) (running r base) ∧ ((running r base).keyin 2).state = .running r) ∧
    (keyinAsked 13 2 (.keyinStop 2) (running freshRun base) ∧ freshRun.stop = none ∧
      freshRun.inFlight = false ∧ ∀ e' : KeyinId, e' ≠ 2 → ((running freshRun base).keyin e').state = .idle) ∧
    (base.oneRunning ∧ base.settled ∧ ∀ r ∈ (base.keyin 0).run?, r.interval = none) ∧
    (let r := { freshRun with interval := some 0 }
     (running r base).oneRunning ∧ ((running r base).keyin 2).state = .running r ∧ r.interval ≠ none) := by
  dsimp only
  repeat' apply And.intro
  all_goals decide +kernel

abbrev rearmAsked (n p : Byte) (s : State) : Prop :=
  (ask 15 [n, p] s).settled ∧ (ask 15 [n, p] s).takes (frameOf 15 [n, p]) (.rearm n.toNat p.toNat) ∧
    ((ask 15 [n, p] s).stationFor (frameOf 15 [n, p])).rights.keyin
/-- A pattern on the ports 0 and 31. -/
def twice : PatternEntry :=
  { panic with pattern := some ⟨[0x69, 0x63], none, true, 0x80000001, .every, true, .hold⟩ }
def twoPorts : State := { base with patterns := State.reset.patterns.set 4 twice }
theorem witness_RearmServed :
    ((guestAsks 15 [4, 0] base).settled ∧
      (guestAsks 15 [4, 0] base).takes (guestFrame 15 [4, 0]) (.rearm 4 0) ∧
      ((guestAsks 15 [4, 0] base).stationFor (guestFrame 15 [4, 0])).rights.keyin = false) ∧
    rearmAsked 64 0 base ∧ rearmAsked 4 32 base ∧
    (rearmAsked 63 31 base ∧ (base.patternEntry 63).pattern = none) ∧
    (rearmAsked 4 1 twoPorts ∧
      (twoPorts.patternEntry 4).pattern = some ⟨[0x69, 0x63], none, true, 0x80000001, .every, true, .hold⟩ ∧
      inSet 0x80000001 1 = false ∧ inSet 0x80000001 31) ∧
    (rearmAsked 4 31 (narrow twoPorts) ∧ inSet ((narrow twoPorts).station 0).ports 31 = false) ∧
    rearmAsked 4 31 twoPorts ∧ rearmAsked 4 0xFF twoPorts ∧
    (panic.windows[(1 : PortId)] = none ∧
      (panic.armOn 1).windows[(1 : PortId)] = some []) := by
  repeat' apply And.intro
  all_goals decide +kernel

/-- The manager's MANAGE request is taken; with `takesManage`, no save is in progress. -/
abbrev manageTaken (op : Byte) (body : List Byte) (m : Manage) (s : State) : Prop :=
  (manage op body s).settled ∧ (manage op body s).takes (frameOf 0x10 (op :: body)) (.manage op m) ∧
    ((manage op body s).stationFor (frameOf 0x10 (op :: body))).rights.manage
abbrev managed (op : Byte) (body : List Byte) (m : Manage) (s : State) : Prop :=
  (manage op body s).settled ∧ (manage op body s).takesManage (frameOf 0x10 (op :: body)) op m
theorem witness_ManageRefusals :
    (let f := guestFrame 0x10 [2, 0]
     (hears base f).settled ∧ (hears base f).takes f (.manage 2 (.stationRead 0)) ∧
       ((hears base f).stationFor f).rights.manage = false) ∧
    manageTaken 0x14 [] .otherOperation base ∧ manageTaken 0 [] .otherOperation base ∧
    (manageTaken 0x12 [] .save { base with saving := some [] } ∧ Manage.isRead .save = false) ∧
    (manageTaken 0x0F [7] .settingWriteOther base ∧ manageTaken 9 [0, 2] .profileWriteOther base ∧
      base.saving = none) := by
  dsimp only
  repeat' apply And.intro
  all_goals decide +kernel
theorem witness_ReadsAnswerAndChangeNothing :
    manageTaken 2 [15] (.stationRead 15) base ∧ manageTaken 2 [16] (.stationRead 16) base ∧
    manageTaken 4 [63] (.patternRead 63) base ∧ manageTaken 4 [64] (.patternRead 64) base ∧
    manageTaken 6 [15] (.comparatorRead 15) base ∧ manageTaken 6 [16] (.comparatorRead 16) base ∧
    (manageTaken 4 [4] (.patternRead 4) twoPorts ∧ (twoPorts.patternEntry 4).pattern ≠ none ∧
      (base.patternEntry 63).pattern = none ∧ (base.patternEntry 63).matchCount = 0 ∧
      ∀ p : PortId, (base.patternEntry 63).windows[p] = none) ∧
    manageTaken 8 [2] (.keyinRead 2) (running freshRun base) ∧
    manageTaken 8 [15] (.keyinRead 15) base ∧ manageTaken 8 [16] (.keyinRead 16) base ∧
    manageTaken 10 [31] (.portStatus 31) base ∧ manageTaken 10 [32] (.portStatus 32) base ∧
    manageTaken 12 [] .allocationRead base ∧ manageTaken 16 [] .settingsRead base ∧
    manageTaken 17 [] .noticeRead base := by
  repeat' apply And.intro
  all_goals decide +kernel

/-- The guest waits for the keyboard, which the manager holds. -/
def guestWaits : State := at0 (attach writing 1 onPort0) fun q => { q with waitList := [1] }
def stationOp (w : StationWrite) : List Byte := bytesOf 1 w.entry ++ encStation w
theorem witness_StationWriteClosesItsSessions :
    (managed 1 (stationOp (manager.raw 16)) (.stationWrite (manager.raw 16)) base ∧
      ¬ stationAllowed base (manager.raw 16)) ∧
    (let twin := { guest with address := managerMac }
     managed 1 (stationOp (twin.raw 1)) (.stationWrite (twin.raw 1)) base ∧
      ¬ stationAllowed base (twin.raw 1)) ∧
    (managed 1 (stationOp (guest.raw 1)) (.stationWrite (guest.raw 1)) base ∧
      stationAllowed base (guest.raw 1)) ∧
    (let meets (s : State) : Prop := managed 1 (stationOp (guest.raw 1)) (.stationWrite (guest.raw 1)) s ∧
       stationAllowed s (guest.raw 1) ∧ s.writersSound ∧ (s.session 1).ofStation 1 ∧
       ∀ j : SlotId, (s.session j).ofStation 1 → j = 1
     meets guestWrites ∧ (guestWrites.port 0).writer = some 1 ∧
     meets guestWaits ∧ (1 : SlotId) ∈ (guestWaits.port 0).waitList) := by
  dsimp only
  repeat' apply And.intro
  all_goals decide +kernel
def patternOp (w : PatternWrite) : List Byte := bytesOf 1 w.entry ++ encPattern w
def keyinOp (w : KeyinWrite) : List Byte := bytesOf 1 w.entry ++ encKeyin w
theorem witness_PatternAndKeyinWrites :
    (managed 3 (patternOp (panic.raw 64)) (.patternWrite (panic.raw 64)) base ∧
      ¬ patternAllowed (panic.raw 64)) ∧
    (managed 3 (patternOp (panic.raw 63)) (.patternWrite (panic.raw 63)) base ∧
      patternAllowed (panic.raw 63) ∧ (panic.raw 63).valid = 1) ∧
    (managed 3 (patternOp (PatternEntry.invalid.raw 0)) (.patternWrite (PatternEntry.invalid.raw 0)) base ∧
      patternAllowed (PatternEntry.invalid.raw 0) ∧ (PatternEntry.invalid.raw 0).valid = 0) ∧
    managed 7 (keyinOp (idleEntry.raw 16)) (.keyinWrite (idleEntry.raw 16)) base ∧
    (managed 7 (keyinOp (idleEntry.raw 0)) (.keyinWrite (idleEntry.raw 0))
      (withEntry { idleEntry with state := .pending })) ∧
    (managed 7 (keyinOp (KeyinEntry.reset.raw 0)) (.keyinWrite (KeyinEntry.reset.raw 0)) base ∧
      ¬ keyinAllowed 0 (KeyinEntry.reset.raw 0) ∧ (base.keyin 0).engaged = false) ∧
    (managed 7 (keyinOp (idleEntry.raw 15)) (.keyinWrite (idleEntry.raw 15)) base ∧
      keyinAllowed 15 (idleEntry.raw 15)) := by
  dsimp only
  repeat' apply And.intro
  all_goals decide +kernel
def comparatorOp (w : ComparatorWrite) : List Byte := bytesOf 1 w.entry ++ encComparator w
/-- Enabled on UNA of port 0, which is 0: its condition holds, or does not. -/
def watcher (m : Method) (v : Word32) : Comparator := ⟨true, 0, .una, m, v, .hold, false⟩
theorem witness_ComparatorWriteAndCounterReset :
    (managed 5 (comparatorOp ((watcher .eq 0).raw 16)) (.comparatorWrite ((watcher .eq 0).raw 16)) base ∧
      ¬ comparatorAllowed ((watcher .eq 0).raw 16)) ∧
    (managed 5 (comparatorOp ((watcher .ge 1).raw 15)) (.comparatorWrite ((watcher .ge 1).raw 15)) base ∧
      comparatorAllowed ((watcher .ge 1).raw 15) ∧
      Method.test .ge ((base.port 0).counters.get .una) 1 = false) ∧
    (managed 5 (comparatorOp ((watcher .eq 0).raw 15)) (.comparatorWrite ((watcher .eq 0).raw 15)) base ∧
      comparatorAllowed ((watcher .eq 0).raw 15) ∧
      Method.test .eq ((base.port 0).counters.get .una) 0 ∧ base.notice.mask.getLsbD 4 ∧
      base.notice.queue.length < 32) ∧
    managed 13 [32, 0] (.counterReset 32 0) base ∧ managed 13 [0, 8] (.counterReset 0 8) base ∧
    (managed 13 [31, 7] (.counterReset 31 7) base ∧ CounterId.deads.code = 7 ∧ base.comparatorsOff) ∧
    (let resets (s : State) : Prop := managed 13 [0, 5] (.counterReset 0 5) s ∧ s.onlyEnabled 15
     CounterId.una.code = 5 ∧ resets (watched .una .eq 0 .hold false base) ∧
       resets (watched .una .eq 0 .hold true base) ∧ resets (watched .una .ge 1 .hold false base)) ∧
    everyFiring (fun a => watched .una .eq 0 a false) := by
  dsimp only
  repeat' apply And.intro
  all_goals decide +kernel

def activeOp (p : Byte) (r : RawProfile) : List Byte := [p, 0] ++ encProfile r
def stagedOp (p : Byte) (r : Option RawProfile) : List Byte := [p, 1] ++ encStaged r
def off : Profile := { Profile.default with txBreak := 3 }
theorem witness_ProfileWrites :
    managed 9 (activeOp 32 fixed.raw) (.profileWriteActive 32 fixed.raw) base ∧
    (let r := { fixed.raw with tolerance := 9 }
     managed 9 (activeOp 0 r) (.profileWriteActive 0 r) base ∧ ¬ profileAllowed True 16 r) ∧
    (managed 9 (activeOp 0 fixed.raw) (.profileWriteActive 0 fixed.raw) base ∧
      profileAllowed True 16 fixed.raw ∧ profileClamped fixed.raw = fixed.raw ∧ fixed = (base.port 0).active) ∧
    (managed 9 (activeOp 31 off.raw) (.profileWriteActive 31 off.raw) base ∧
      profileAllowed True 16 off.raw ∧ profileClamped off.raw = off.raw ∧ off ≠ (base.port 31).active ∧
      (base.port 31).state = .disabled ∧ off.enable = false) ∧
    (managed 9 (activeOp 0 off.raw) (.profileWriteActive 0 off.raw) base ∧
      off ≠ (base.port 0).active ∧ (base.port 0).state ≠ .disabled ∧ base.keyinsIdle) ∧
    (managed 9 (activeOp 0 off.raw) (.profileWriteActive 0 off.raw) (running freshRun base) ∧
      ((running freshRun base).keyin 2).port = 0 ∧ ((running freshRun base).keyin 2).engaged ∧
      (running freshRun base).othersIdle [2]) ∧
    (managed 9 (activeOp 0 auto.raw) (.profileWriteActive 0 auto.raw) (pulsing (some 5)) ∧
      ((pulsing (some 5)).port 0).pulse ≠ none ∧ auto.auxA ≠ ((pulsing (some 5)).port 0).active.auxA) ∧
    (managed 9 (activeOp 0 auto.raw) (.profileWriteActive 0 auto.raw) base ∧
      profileAllowed True 16 auto.raw ∧ profileClamped auto.raw = auto.raw ∧ auto.enable ∧ (base.port 0).flight = none ∧
      auto.rateMode = .auto) ∧
    (managed 9 (activeOp 0 auto.raw) (.profileWriteActive 0 auto.raw) (sending (.breakSpace 5)) ∧
      ((sending (.breakSpace 5)).port 0).flight ≠ none) ∧
    (managed 9 (activeOp 31 fixed.raw) (.profileWriteActive 31 fixed.raw) base ∧
      fixed ≠ (base.port 31).active ∧ fixed.rateMode = .fixed) ∧
    managed 9 (stagedOp 32 none) (.profileWriteStaged 32 none) base ∧
    managed 9 (stagedOp 31 none) (.profileWriteStaged 31 none) base ∧
    (let r := { fixed.raw with tolerance := 9 }
     managed 9 (stagedOp 0 (some r)) (.profileWriteStaged 0 (some r)) base ∧ ¬ profileAllowed False 16 r) ∧
    (let r := { fixed.raw with liveQual := 0 }
     managed 9 (stagedOp 0 (some r)) (.profileWriteStaged 0 (some r)) base ∧
      profileAllowed False 16 r ∧ profileClamped r = { fixed with liveQual := 1 }.raw) := by
  dsimp only
  repeat' apply And.intro
  all_goals decide +kernel

/-- Every port keeps its 16 blocks but port 0, which is given n. -/
def blocks (n : Nat) : List Nat := n :: List.replicate 31 16
def allocateOp (n : Nat) : List Byte := (blocks n).flatMap (bytesOf 1)
theorem witness_AllocateEmptiesTheChangedRings :
    (blocks 15).length = 32 ∧
    (managed 0x0B (allocateOp 17) (.allocate (blocks 17)) base ∧ ¬ (blocks 17).sum ≤ 512) ∧
    (managed 0x0B (allocateOp 0) (.allocate (blocks 0)) base ∧ (base.port 0).state ≠ .disabled ∧
      (blocks 0)[(0 : PortId).val]? = some 0) ∧
    (managed 0x0B (allocateOp 16) (.allocate (blocks 16)) base ∧ (blocks 16).sum = 512 ∧
      (blocks 16)[(0 : PortId).val]? = some (base.port 0).alloc) ∧
    (managed 0x0B (allocateOp 1) (.allocate (blocks 1)) watching ∧
      (∀ b ∈ blocks 1, b ≤ 64) ∧ (∀ p : PortId, (watching.port p).state ≠ .disabled → (blocks 1)[p.val]? ≠ some 0) ∧
      (blocks 1)[(0 : PortId).val]? = some 1 ∧ (1 : Nat) ≠ (watching.port 0).alloc ∧
      (watching.session 0).attachment = some onPort0 ∧ onPort0.port = 0) := by
  repeat' apply And.intro
  all_goals decide +kernel

theorem witness_SettingWrites :
    managed 0x0F (0 :: encMac 0) (.stationAddressWrite 0) base ∧
    managed 0x0F (0 :: encMac managerMac) (.stationAddressWrite managerMac) base ∧
    managed 0x0F (1 :: bytesOf 2 0x05FF) (.frameTypeWrite 0x05FF) base ∧
    managed 0x0F (1 :: bytesOf 2 0x0600) (.frameTypeWrite 0x0600) base ∧
    managed 0x0F (2 :: encMac 0) (.noticeDestinationWrite 0) base ∧
    managed 0x0F (3 :: bytesOf 4 0x800) (.noticeMaskWrite 0x800) base ∧
    managed 0x0F (3 :: bytesOf 4 0x7FF) (.noticeMaskWrite 0x7FF) base ∧
    managed 0x0F (4 :: bytesOf 2 256) (.holdoffWrite 256) base ∧
    managed 0x0F (5 :: bytesOf 2 9) (.sessionIdleLimitWrite 9) base ∧
    managed 0x0F (5 :: bytesOf 2 120) (.sessionIdleLimitWrite 120) base ∧
    managed 0x0F (6 :: bytesOf 2 3601) (.writerIdleLimitWrite 3601) writing ∧
    managed 0x0F (6 :: bytesOf 2 600) (.writerIdleLimitWrite 600) writing ∧
    (base.sessionLimit = 120 ∧ writing.writerLimit = 600 ∧ writing.isWriter 0) := by
  repeat' apply And.intro
  all_goals decide +kernel
theorem witness_PortRestartServed :
    managed 0x0E [32] (.portRestart 32) base ∧
    (managed 0x0E [31] (.portRestart 31) base ∧ (base.port 31).state = .disabled) ∧
    (managed 0x0E [0] (.portRestart 0) base ∧ (base.port 0).state ≠ .disabled ∧ (base.port 0).flight = none) ∧
    (managed 0x0E [0] (.portRestart 0) (sending (.breakSpace 5)) ∧
      ((sending (.breakSpace 5)).port 0).flight ≠ none) ∧
    (managed 0x0E [0] (.portRestart 0) (running freshRun base) ∧
      ((running freshRun base).keyin 2).port = 0 ∧ ((running freshRun base).keyin 2).engaged) ∧
    (let s := at0 base fun q => { q with active := auto }
     managed 0x0E [0] (.portRestart 0) s ∧ s.keyinsIdle ∧ (s.port 0).pulse = none ∧
      (s.port 0).active.rateMode = .auto) := by
  dsimp only
  repeat' apply And.intro
  all_goals decide +kernel
theorem witness_SaveWritesTheImage :
    managed 0x12 [] .save base ∧ ({ base with saving := some [] } : State).saving = some [] ∧
    base.saving = none := by
  dsimp only
  repeat' apply And.intro
  all_goals decide +kernel
theorem witness_WarmRestartLeaves :
    (manage 0x13 [] (running freshRun base)).takesManage (frameOf 0x10 [0x13]) 0x13 .warmRestart ∧
    ((running freshRun base).keyin 2).engaged ∧ (running freshRun base).writersSound ∧
    ((base.port 31).state = .disabled ∧ (base.port 0).state ≠ .disabled) := by
  repeat' apply And.intro
  all_goals decide +kernel
/-- A memory that does not answer, one whose sum is bad, and a good one that holds a settings record. -/
theorem witness_ColdResetStartsThePart :
    let mute : ConfigMemory := ⟨false, true, 0, 0, [], []⟩
    let bad : ConfigMemory := ⟨true, true, 0, 1, [], []⟩
    let image := savedMemory [.settings ⟨2, 0x0600, 0, 0, 255, 10, 0⟩]
    (⟨0, true, some mute, false⟩ : ColdInputs).fitted = some mute ∧ mute.answers = false ∧
    (⟨0, true, some bad, false⟩ : ColdInputs).fitted = some bad ∧ sumAgrees bad = false ∧
    (⟨31, false, some image, false⟩ : ColdInputs).fitted = some image ∧
    (image.answers = true ∧ image.marker = true ∧ sumAgrees image = true) ∧
    imageRecordsOf image = [.settings ⟨2, 0x0600, 0, 0, 255, 10, 0⟩] ∧
    (let s : State := { base with saving := some [], memory := image }
     s.saving ≠ none ∧ (⟨0, true, none, true⟩ : ColdInputs).saveStarted ∧
       (⟨0, true, none, true⟩ : ColdInputs).fitted = none ∧
       ({ s.memory with marker := false } : ConfigMemory).marker = false) := by
  have h := savedMemory_good [.settings ⟨2, 0x0600, 0, 0, 255, 10, 0⟩]
  have g := h.1
  simp only [imageGood, Bool.and_eq_true] at g
  exact ⟨rfl, rfl, rfl, by decide, rfl, ⟨g.1.1, g.1.2, g.2⟩, h.2, by decide, rfl, rfl, rfl⟩

end Sys2Proof.Tests
end

section
/-! PROOFS. The configuration of the part: the divisors, the profiles, the settings of R178 and the
uplink queues, and the operations that leave all of it as it was. -/

namespace Sys2Proof.Machine

/-! ### The values that writes have checked -/

/-- What of a port only start-up, a write, a profile switch or a detection changes: the divisor and the two
profiles. -/
abbrev Port.values (q : Port) : Nat × Profile × Option Profile := (q.divisor, q.active, q.staged)

/-- The values of every port, the settings of R178 and the two uplink queues. -/
def State.configuration (s : State) :
    (PortId → Nat × Profile × Option Profile) × (Word32 × Nat × Option Mac) ×
      (Mac × Word16 × List RxFrame × List Reply) × Nat × Nat :=
  (fun p => (s.port p).values, (s.notice.mask, s.notice.holdoff, s.notice.destination),
    (s.uplink.address, s.uplink.frameType, s.uplink.rxQueue, s.uplink.replies),
    s.sessionLimit, s.writerLimit)

theorem modPort_configuration_of {s : State} {p : PortId} {f : Port → Port}
    (hf : (f (s.port p)).values = (s.port p).values) :
    (s.modPort p f).configuration = s.configuration := by
  have hp : ∀ j, ((s.modPort p f).port j).values = (s.port j).values := fun j => by
    rw [port_modPort]; split
    · next h => rw [hf, h]
    · rfl
  simp only [State.configuration, hp]; rfl

@[simp] theorem modPort_configuration (s : State) (p : PortId) (f : Port → Port)
    (hf : ∀ q, (f q).values = q.values) : (s.modPort p f).configuration = s.configuration :=
  modPort_configuration_of (hf _)

@[simp] theorem modSession_configuration (s : State) (k : SlotId) (f : Session → Session) :
    (s.modSession k f).configuration = s.configuration := rfl
@[simp] theorem modAttachment_configuration (s : State) (k : SlotId) (f : Attachment → Attachment) :
    (s.modAttachment k f).configuration = s.configuration := rfl
@[simp] theorem mapAttached_configuration (s : State) (p : PortId) (f : Attachment → Attachment) :
    (s.mapAttached p f).configuration = s.configuration := rfl
@[simp] theorem testContent_configuration (p : PortId) (s : State) :
    (s.testContent p).configuration = s.configuration := rfl
@[simp] theorem modPattern_configuration (s : State) (i : PatternId) (f : PatternEntry → PatternEntry) :
    (s.modPattern i f).configuration = s.configuration := rfl
@[simp] theorem modComparator_configuration (s : State) (i : ComparatorId)
    (f : Comparator → Comparator) : (s.modComparator i f).configuration = s.configuration := rfl
@[simp] theorem modKeyin_configuration (s : State) (e : KeyinId) (f : KeyinEntry → KeyinEntry) :
    (s.modKeyin e f).configuration = s.configuration := rfl
@[simp] theorem countUplink_configuration (s : State) (f : UplinkCounters → UplinkCounters) :
    (s.countUplink f).configuration = s.configuration := rfl
@[simp] theorem clearWindows_configuration (p : PortId) (s : State) :
    (clearWindows p s).configuration = s.configuration := rfl
@[simp] theorem pushByte_configuration (s : State) (p : PortId) (b : Byte) :
    (s.pushByte p b).configuration = s.configuration := rfl
@[simp] theorem evaluateAll_configuration (s : State) (p : PortId) (ev : CounterEvent) :
    (s.evaluateAll p ev).configuration = s.configuration := rfl
@[simp] theorem settle_configuration (s : State) : (settle s).configuration = s.configuration := rfl
@[simp] theorem sendFrame_configuration (m : Mac) (d : List Byte) (s : State) :
    (sendFrame m d s).configuration = s.configuration := rfl
@[simp] theorem placeSession_configuration (k : SlotId) (p : PortId) (t : Target) (c g : Nat) (s : State) :
    (placeSession k p t c g s).configuration = s.configuration := rfl

@[simp] theorem raise_configuration (c : Cause) (p : Option PortId) (w : Word16) (s : State) :
    (raise c p w s).configuration = s.configuration := by
  obtain ⟨q, o, h⟩ := raise_eq c p w s; rw [h]; rfl

@[simp] theorem setRing_configuration (s : State) (p : PortId) (r : Ring) :
    (s.setRing p r).configuration = s.configuration := by
  simp [State.setRing]

@[simp] theorem writeMark_configuration (p : PortId) (k : MarkKind) (w : Word16) (s : State) :
    (writeMark p k w s).configuration = s.configuration := by
  obtain ⟨f, -, h⟩ := writeMark_eq p k w s; simp [h]

@[simp] theorem storeByte_configuration (p : PortId) (b : Byte) (s : State) :
    (storeByte p b s).configuration = s.configuration := by
  obtain ⟨f, -, h⟩ := storeByte_eq p b s; simp [h]

@[simp] theorem emptyRing_configuration (p : PortId) (n : Nat) (s : State) :
    (emptyRing p n s).configuration = s.configuration := by
  simp [emptyRing]

/-! ### The transmitter and the key-in unit -/

@[simp] theorem startQueued_values (q : Port) : q.startQueued.values = q.values := by
  unfold Port.startQueued; split
  · rfl
  · split <;> rfl

@[simp] theorem startKeyinItem_configuration (p : PortId) (e : KeyinId) (s : State) :
    (startKeyinItem p e s).configuration = s.configuration := by
  unfold startKeyinItem; split <;> simp

@[simp] theorem txChoice_configuration (p : PortId) (s : State) :
    (txChoice p s).configuration = s.configuration := by
  unfold txChoice; split
  · rfl
  · split <;> simp

@[simp] theorem startEntry_configuration (e : KeyinId) (s : State) :
    (startEntry e s).configuration = s.configuration := by
  simp [startEntry]

@[simp] theorem startStep_configuration (p : PortId) (s : State) :
    (startStep p s).configuration = s.configuration := by
  unfold startStep; split
  · rfl
  · split <;> simp

@[simp] theorem makePending_configuration (e : KeyinId) (s : State) :
    (makePending e s).configuration = s.configuration := rfl

@[simp] theorem report_configuration (h : Option PortId) (r : Report) (s : State) :
    (report h r s).configuration = s.configuration := by
  unfold report; dsimp only
  rw [forEach_reads State.configuration startStep_configuration,
    forEach_reads State.configuration makePending_configuration]

@[simp] theorem keyinAction_configuration (e : KeyinId) (s : State) :
    (keyinAction e s).configuration = s.configuration := by
  unfold keyinAction; dsimp only; split <;> simp

@[simp] theorem endRecord_configuration (e : KeyinId) (o : Outcome) (s : State) :
    (endRecord e o s).configuration = s.configuration := by
  simp [endRecord]

@[simp] theorem endHeld_configuration (e : KeyinId) (o : Outcome) (s : State) :
    (endHeld e o s).configuration = s.configuration := by
  simp [endHeld]

@[simp] theorem endEntry_configuration (e : KeyinId) (o : Outcome) (s : State) :
    (endEntry e o s).configuration = s.configuration := by
  unfold endEntry; dsimp only; split <;> simp

@[simp] theorem stopEntry_configuration (e : KeyinId) (o : Outcome) (s : State) :
    (stopEntry e o s).configuration = s.configuration := by
  unfold stopEntry; split
  · rfl
  · split
    · rfl
    · split <;> simp

@[simp] theorem abortAll_configuration (p : PortId) (s : State) :
    (abortAll p s).configuration = s.configuration :=
  forEach_reads State.configuration (fun e => endHeld_configuration e _) _ s

@[simp] theorem cycleEnd_configuration (e : KeyinId) (s : State) :
    (cycleEnd e s).configuration = s.configuration := by
  unfold cycleEnd; split
  · rfl
  · dsimp only; split <;> simp

@[simp] theorem itemEnd_configuration (p : PortId) (s : State) :
    (itemEnd p s).configuration = s.configuration := by
  unfold itemEnd; split
  · rfl
  · split
    · rfl
    · split
      · dsimp only; split
        · simp
        · split <;> simp
      · rfl

@[simp] theorem noteByte_configuration (p : PortId) (s : State) :
    (noteByte p s).configuration = s.configuration := by
  unfold noteByte; split <;> simp

/-! ### The line engine -/

@[simp] theorem switchSense_values (old : AuxB) (b : Bool) (q : Port) :
    (q.switchSense old b).values = q.values := by
  unfold Port.switchSense; repeat' split
  all_goals rfl

@[simp] theorem startPulse_configuration (p : PortId) (s : State) :
    (startPulse p s).configuration = s.configuration := by
  simp [startPulse]

@[simp] theorem cutPulse_configuration (p : PortId) (s : State) :
    (cutPulse p s).configuration = s.configuration := by
  unfold cutPulse; split <;> simp

@[simp] theorem pulseAction_configuration (p : PortId) (s : State) :
    (pulseAction p s).configuration = s.configuration := by
  unfold pulseAction; split <;> simp

@[simp] theorem releaseHold_configuration (p : PortId) (s : State) :
    (releaseHold p s).configuration = s.configuration := by
  simp [releaseHold]

@[simp] theorem stopKeyinAction_configuration (p : PortId) (s : State) :
    (stopKeyinAction p s).configuration = s.configuration := by
  unfold stopKeyinAction; split <;> simp

@[simp] theorem enterSwitching_configuration (p : PortId) (old : Profile) (w : Word16) (s : State) :
    (enterSwitching p old w s).configuration = s.configuration := by
  unfold enterSwitching; dsimp only; split <;> simp [Port.abandonLine]

@[simp] theorem disablePort_configuration (p : PortId) (w : Word16) (s : State) :
    (disablePort p w s).configuration = s.configuration := by
  have shut : ∀ t : State, (t.modPort p Port.shutDown).configuration = t.configuration :=
    fun t => modPort_configuration t p _ fun _ => rfl
  have stop : ∀ t : State, (t.modPort p Port.stopSense).configuration = t.configuration :=
    fun t => modPort_configuration t p _ fun _ => rfl
  simp [disablePort, shut, stop]

/-! ### Sessions -/

@[simp] theorem setWaitPlace_configuration (k : SlotId) (s : State) :
    (setWaitPlace k s).configuration = s.configuration := rfl

@[simp] theorem writerChange_configuration (p : PortId) (old new : Option SlotId) (s : State) :
    (writerChange p old new s).configuration = s.configuration := by
  cases old <;> cases new <;> simp [writerChange]

@[simp] theorem leaveWaitList_configuration (p : PortId) (k : SlotId) (s : State) :
    (leaveWaitList p k s).configuration = s.configuration := by
  unfold leaveWaitList; dsimp only; split
  · rw [forEach_reads State.configuration setWaitPlace_configuration]; simp
  · rfl

@[simp] theorem releaseWriter_configuration (p : PortId) (s : State) :
    (releaseWriter p s).configuration = s.configuration := by
  unfold releaseWriter; dsimp only; split <;> simp

@[simp] theorem joinWaitList_configuration (p : PortId) (k : SlotId) (s : State) :
    (joinWaitList p k s).configuration = s.configuration := by
  unfold joinWaitList; dsimp only
  rw [forEach_reads State.configuration setWaitPlace_configuration]; simp

@[simp] theorem preempt_configuration (p : PortId) (w k : SlotId) (s : State) :
    (preempt p w k s).configuration = s.configuration := by
  simp [preempt, setPreempted]

@[simp] theorem leavePort_configuration (k : SlotId) (s : State) :
    (leavePort k s).configuration = s.configuration := by
  unfold leavePort; split
  · rfl
  · dsimp only; split <;> simp

@[simp] theorem detachSession_configuration (k : SlotId) (s : State) :
    (detachSession k s).configuration = s.configuration := by
  simp [detachSession]

@[simp] theorem closeSession_configuration (k : SlotId) (s : State) :
    (closeSession k s).configuration = s.configuration := by
  simp [closeSession]

@[simp] theorem contend_configuration (k : SlotId) (a : AttachPlan) (s : State) :
    (contend k a s).1.configuration = s.configuration := by
  unfold contend; split
  · simp
  · split
    · simp
    · split
      · split <;> simp
      · rfl

/-! ### Table writes -/

@[simp] theorem applyStation_configuration (e : StationId) (w : Station) (s : State) :
    (applyStation e w s).configuration = s.configuration :=
  forEach_reads State.configuration closeSession_configuration _ s

@[simp] theorem applyPattern_configuration (i : PatternId) (t : Option Pattern) (s : State) :
    (applyPattern i t s).configuration = s.configuration := rfl

@[simp] theorem applyKeyin_configuration (e : KeyinId) (w : KeyinEntry) (s : State) :
    (applyKeyin e w s).configuration = s.configuration := rfl

@[simp] theorem applyVector_configuration (blocks : List Nat) (s : State) :
    (applyVector blocks s).configuration = s.configuration :=
  forEach_reads State.configuration (fun p s => by split <;> simp) _ s

@[simp] theorem applyCommission_configuration (b : Bool) (s : State) :
    (applyCommission b s).configuration = s.configuration := by
  unfold applyCommission; split <;> rfl

end Sys2Proof.Machine
end

section
/-! PROOFS. Every step keeps the divisors, the profiles and the settings in range and the uplink queues
within eight frames: first what each operation that changes one of them keeps, then what each command
keeps. -/

namespace Sys2Proof.Machine

/-! ### Keeping the values in range -/

/-- The divisor of the port is one R28 allows. -/
abbrev Port.divisorLegal (q : Port) : Prop := 16 ≤ q.divisor ∧ q.divisor ≤ 65535

/-- The two profiles of the port are in the ranges of R2. -/
abbrev Port.profilesInRange (q : Port) : Prop := q.active.inRange ∧ ∀ f ∈ q.staged, f.inRange

/-- From s to t the divisors stay legal, the profiles in range and the settings legal; no received frame
is added, and at most n replies are. -/
structure Keeps (n : Nat) (s t : State) : Prop where
  divisors : s.divisorsLegal → t.divisorsLegal
  profiles : s.profilesInRange → t.profilesInRange
  settings : s.settingsLegal → t.settingsLegal
  received : t.uplink.rxQueue.length ≤ s.uplink.rxQueue.length
  replies : t.uplink.replies.length ≤ s.uplink.replies.length + n

theorem Keeps.refl (s : State) : Keeps 0 s s :=
  ⟨id, id, id, Nat.le_refl _, Nat.le_refl _⟩

theorem Keeps.trans {n : Nat} {s t u : State} (h : Keeps 0 s t) (g : Keeps n t u) : Keeps n s u where
  divisors := g.divisors ∘ h.divisors
  profiles := g.profiles ∘ h.profiles
  settings := g.settings ∘ h.settings
  received := Nat.le_trans g.received h.received
  replies := Nat.le_trans g.replies (Nat.add_le_add_right h.replies n)

theorem Keeps.andThen {n : Nat} {s t u : State} (h : Keeps n s t) (g : Keeps 0 t u) : Keeps n s u where
  divisors := g.divisors ∘ h.divisors
  profiles := g.profiles ∘ h.profiles
  settings := g.settings ∘ h.settings
  received := Nat.le_trans g.received h.received
  replies := Nat.le_trans g.replies h.replies

theorem Keeps.one {s t : State} (h : Keeps 0 s t) : Keeps 1 s t :=
  { h with replies := Nat.le_succ_of_le h.replies }

/-- A change of anything else keeps every value. -/
theorem Keeps.of_configuration {s t : State} (h : t.configuration = s.configuration) : Keeps 0 s t := by
  simp only [State.configuration, Prod.mk.injEq] at h
  obtain ⟨hports, ⟨hmask, hholdoff, hdest⟩, ⟨haddress, htype, hrx, hreplies⟩, hsession, hwriter⟩ := h
  have hport : ∀ p, (t.port p).divisor = (s.port p).divisor ∧ (t.port p).active = (s.port p).active ∧
      (t.port p).staged = (s.port p).staged := fun p => by simpa using congrFun hports p
  exact {
    divisors := fun hs p => by rw [(hport p).1]; exact hs p
    profiles := fun hs p => by rw [(hport p).2.1, (hport p).2.2]; exact hs p
    settings := fun hs => by
      simpa only [State.settingsLegal, hmask, hholdoff, hdest, haddress, htype, hsession, hwriter] using hs
    received := by rw [hrx]
    replies := by rw [hreplies]; omega }

theorem Keeps.then_configuration {n : Nat} {s t u : State} (h : Keeps n s t)
    (e : u.configuration = t.configuration) : Keeps n s u :=
  h.andThen (.of_configuration e)

theorem Keeps.forEach {α : Type} {f : α → State → State} {xs : List α}
    (h : ∀ x s, Keeps 0 s (f x s)) (s : State) : Keeps 0 s (forEach xs f s) :=
  forEach_keeps (Keeps 0 s) (fun x _ t ht => ht.trans (h x t)) (.refl s)

theorem Keeps.modPort {s : State} {p : PortId} {f : Port → Port}
    (hd : (s.port p).divisorLegal → (f (s.port p)).divisorLegal)
    (hp : (s.port p).profilesInRange → (f (s.port p)).profilesInRange) : Keeps 0 s (s.modPort p f) where
  divisors hs j := by
    rw [port_modPort]; split
    · exact hd (hs p)
    · exact hs j
  profiles hs j := by
    rw [port_modPort]; split
    · exact hp (hs p)
    · exact hs j
  settings := id
  received := Nat.le_refl _
  replies := Nat.le_refl _

theorem reply_keeps (c : Ctx) (r : Result) (vs : List Byte) (s : State) :
    Keeps 1 s (reply c r vs s) where
  divisors := id
  profiles := id
  settings := id
  received := Nat.le_refl _
  replies := by simp [reply]

theorem Keeps.reply {s t : State} (h : Keeps 0 s t) (c : Ctx) (r : Result) (vs : List Byte) :
    Keeps 1 s (reply c r vs t) :=
  h.trans (reply_keeps c r vs t)

/-! ### Divisors and line profiles -/

/-- The divisor of any rate lies in 16..65,535 (R29). -/
theorem divisorOf_legal (r : Nat) : 16 ≤ divisorOf r ∧ divisorOf r ≤ 65535 := by
  unfold divisorOf clampTo
  split
  · omega
  · split <;> omega

theorem clampTo_bounds {lo hi : Nat} (h : lo ≤ hi) (n : Nat) :
    lo ≤ clampTo lo hi n ∧ clampTo lo hi n ≤ hi := by
  unfold clampTo
  split
  · omega
  · split <;> omega

theorem default_inRange : Profile.default.inRange := by decide

/-- The numbers of a decoded profile are those it was decoded from. -/
theorem decodeProfile_numbers {r : RawProfile} {f : Profile} (h : decodeProfile r = some f) :
    f = { f with
      fixedRate := r.fixedRate, rateList := r.rateList, tolerance := r.tolerance
      runsNeeded := r.runsNeeded, detectWindow := r.detectWindow
      breakThreshold := r.breakThreshold, deadThreshold := r.deadThreshold, liveQual := r.liveQual
      pulseDuration := r.pulseDuration, sensePeriod := r.sensePeriod, senseAgree := r.senseAgree
      txBreak := r.txBreak } := by
  simp only [decodeProfile, Option.bind_eq_bind, Option.bind_eq_some_iff, Option.some.injEq] at h
  obtain ⟨_, -, _, -, _, -, _, -, _, -, _, -, _, -, _, -, _, -, rfl⟩ := h
  rfl

/-- A profile that passes the check of R3 is in the ranges of R2. -/
theorem checkProfile_inRange {b : Bool} {n : Nat} {r : RawProfile} {f : Profile} {c : Bool}
    (h : checkProfile b n r = some (f, c)) : f.inRange := by
  unfold checkProfile at h
  split at h
  · cases h
  next g hg =>
    split at h
    next hc =>
      obtain ⟨rfl, -⟩ : g = f ∧ _ = c := by simpa using h
      simp only [countsAllowed, Profile.combinationAllowed, Bool.and_eq_true, decide_eq_true_eq,
        List.all_eq_true] at hc
      obtain ⟨⟨⟨⟨⟨⟨⟨⟨⟨⟨⟨hrate, hlen⟩, hlen'⟩, hall⟩, hnodup⟩, htol⟩, htol'⟩, hruns⟩, hruns'⟩, hagree⟩,
        hagree'⟩, hcts, -⟩ := hc
      have hflow : g.flow = .cts → g.auxB = .cts := by simpa [imp_iff_not_or, or_comm] using hcts
      rw [decodeProfile_numbers hg]
      exact ⟨hrate, ⟨hlen, hlen', hall, hnodup⟩, ⟨htol, htol'⟩, ⟨hruns, hruns'⟩,
        clampTo_bounds (by decide) _, clampTo_bounds (by decide) _, clampTo_bounds (by decide) _,
        clampTo_bounds (by decide) _, clampTo_bounds (by decide) _, clampTo_bounds (by decide) _,
        ⟨hagree, hagree'⟩, clampTo_bounds (by decide) _, hflow⟩
    · cases h

/-! ### What the line engine and the watch unit keep -/

theorem modPort_modPort (s : State) (p : PortId) (f g : Port → Port) :
    (s.modPort p f).modPort p g = s.modPort p fun q => g (f q) := by
  simp [State.modPort]

theorem enterLiveWith_keeps {n : Nat} (hn : 16 ≤ n ∧ n ≤ 65535) (p : PortId) (s : State) :
    Keeps 0 s (enterLiveWith p n s) :=
  (Keeps.modPort (p := p) (f := fun q => { q with state := .live, divisor := n, breakSeen := false })
    (fun _ => hn) id).then_configuration (by simp [enterLiveWith])

theorem endSwitching_keeps (p : PortId) (s : State) : Keeps 0 s (endSwitching p s) := by
  unfold endSwitching; split
  · exact .of_configuration ((txChoice_configuration _ _).trans (modPort_configuration _ _ _ fun _ => rfl))
  · exact enterLiveWith_keeps (divisorOf_legal _) p s

theorem settleSwitching_keeps (p : PortId) (s : State) : Keeps 0 s (settleSwitching p s) := by
  unfold settleSwitching; split
  · exact endSwitching_keeps p s
  · exact .refl s

theorem profileSwitch_keeps (p : PortId) (old : Profile) (w : Word16) (s : State) :
    Keeps 0 s (profileSwitch p old w s) := by
  unfold profileSwitch
  refine Keeps.trans (.of_configuration ?_) (settleSwitching_keeps p _)
  split <;> simp

theorem restartPort_keeps (p : PortId) (s : State) : Keeps 0 s (restartPort p s) := by
  unfold restartPort; dsimp only; split
  · exact .of_configuration (by simp)
  · exact Keeps.trans (.of_configuration (by simp)) (settleSwitching_keeps p _)

/-- Past storing the new active profile, its outcomes keep every value (R4). -/
theorem applyActive_keeps_set (p : PortId) (f : Profile) (w : Word16) (s : State) :
    Keeps 0 (s.modPort p (·.setActive f)) (applyActive p f w s) := by
  unfold applyActive; dsimp only; split
  next h => exact .of_configuration (modPort_configuration_of (by rw [h]; rfl)).symm
  next =>
    split
    · exact profileSwitch_keeps p _ w _
    · split
      · exact .refl _
      · exact .of_configuration (disablePort_configuration p w _)

theorem applyActive_keeps {f : Profile} (hf : f.inRange) (p : PortId) (w : Word16) (s : State) :
    Keeps 0 s (applyActive p f w s) :=
  (Keeps.modPort id fun h => ⟨hf, h.2⟩).trans (applyActive_keeps_set p f w s)

/-- The STAGE action makes active a profile that was in range while it was staged (R5). -/
theorem stageAction_keeps (p : PortId) (s : State) : Keeps 0 s (stageAction p s) := by
  unfold stageAction; split
  · exact .refl s
  next f hf =>
    split
    · exact .refl s
    · refine Keeps.trans ?_ (applyActive_keeps_set p f 1 _)
      rw [modPort_modPort]
      exact .modPort id fun h => ⟨h.2 f hf, by simp [Port.setActive]⟩

theorem performAction_keeps (a : Action) (p : PortId) (s : State) :
    Keeps 0 s (performAction a p s) := by
  cases a with
  | none => exact .refl s
  | hold => exact .of_configuration (by simp [performAction, holdAction])
  | release => exact .of_configuration (releaseHold_configuration p s)
  | pulse => exact .of_configuration (pulseAction_configuration p s)
  | stage => exact stageAction_keeps p s
  | keyin e => exact .of_configuration (keyinAction_configuration e s)
  | stopKeyin => exact .of_configuration (stopKeyinAction_configuration p s)

theorem fireComparator_keeps (i : ComparatorId) (s : State) : Keeps 0 s (fireComparator i s) :=
  (Keeps.trans (.of_configuration (raise_configuration _ _ _ s)) (performAction_keeps _ _ _)).then_configuration
    (report_configuration _ _ _)

theorem counterEvent_keeps (p : PortId) (ev : CounterEvent) (s : State) :
    Keeps 0 s (counterEvent p ev s) := by
  unfold counterEvent
  exact Keeps.trans (.of_configuration (by simp)) (.forEach fireComparator_keeps _)

theorem reportMatch_configuration (b : Bool) (p : PortId) (i : PatternId) (s : State) :
    (reportMatch b p i s).configuration = s.configuration := by
  have stop : ∀ t : State, (stopByMatch p i t).configuration = t.configuration := fun t => by
    unfold stopByMatch; split <;> simp
  cases b <;> simp [reportMatch, stop]

theorem handleMatch_keeps (b : Bool) (p : PortId) (i : PatternId) (s : State) :
    Keeps 0 s (handleMatch b p i s) := by
  unfold handleMatch; split
  · exact .refl s
  next t _ =>
    refine Keeps.trans (.then_configuration (.trans (.of_configuration ?_) (performAction_keeps t.action p _))
      (reportMatch_configuration b p i _)) (counterEvent_keeps p .patternMatch _)
    split <;> simp

theorem runJob_keeps (b : Bool) (p : PortId) (j : ByteJob) (s : State) : Keeps 0 s (runJob b p j s) := by
  cases j with
  | watch => exact .refl s
  | handle i => exact handleMatch_keeps b p i s
  | count ev => exact counterEvent_keeps p ev s

/-! ### What the events of a console line keep -/

theorem storeCharacter_keeps (p : PortId) (data : Byte) (b : Bool) (order : StoreOrder) (s : State) :
    Keeps 0 s (storeCharacter p data b order s) := by
  have jobs := fun (xs : List ByteJob) t => Keeps.forEach (xs := xs) (runJob_keeps order.stopFirst p) t
  unfold storeCharacter
  exact ((Keeps.trans (.of_configuration (by simp)) (jobs _ _)).then_configuration
    (pushByte_configuration _ _ _)).trans (jobs _ _)

theorem recordBreak_keeps (p : PortId) (s : State) : Keeps 0 s (recordBreak p s) := by
  unfold recordBreak
  exact (Keeps.trans (.of_configuration (by simp))
    (counterEvent_keeps p .breakRecorded _)).then_configuration
    ((clearWindows_configuration p _).trans (raise_configuration _ _ _ _))

theorem abortDead_configuration (p : PortId) (was : Option KeyinId) (s : State) :
    (abortDead p was s).configuration = s.configuration := by
  unfold abortDead; split
  · split <;> simp
  · rfl

theorem enterDead_keeps (p : PortId) (s : State) : Keeps 0 s (enterDead p s) := by
  unfold enterDead
  exact (Keeps.trans (.of_configuration (by simp))
    (counterEvent_keeps p .deadEntered _)).then_configuration
    ((abortDead_configuration p _ _).trans (raise_configuration _ _ _ _))

theorem deadFromLive_keeps (p : PortId) (s : State) : Keeps 0 s (deadFromLive p s) := by
  have first : Keeps 0 s (if (s.port p).breakSeen then s else recordBreak p s) := by
    split
    · exact .refl s
    · exact recordBreak_keeps p s
  unfold deadFromLive; dsimp only
  generalize (if (s.port p).breakSeen then s else recordBreak p s) = t at first
  split
  · exact first.trans (enterDead_keeps p _)
  · exact first

theorem leaveDead_configuration (p : PortId) (s : State) :
    (leaveDead p s).configuration = s.configuration := by
  have left : (s.modPort p fun q => if q.redetects then q.enterDetecting
      else { q with state := .live, breakSeen := false, qualTimer := none }).configuration =
      s.configuration := modPort_configuration _ _ _ fun q => by split <;> rfl
  unfold leaveDead; dsimp only
  split <;> simp [left]

theorem evaluateRun_keeps (p : PortId) (m : Nat) (s : State) : Keeps 0 s (evaluateRun p m s) := by
  unfold evaluateRun; dsimp only; split
  · exact Keeps.trans (.of_configuration (by simp)) (enterLiveWith_keeps (divisorOf_legal _) p _)
  · exact .of_configuration (by simp)

theorem acceptEdge_keeps (p : PortId) (edge : Nat) (mark : Bool) (s : State) :
    Keeps 0 s (acceptEdge p edge mark s) := by
  have seen : Keeps 0 s (s.modPort p fun q =>
      { q with rxMark := mark, detector := q.detector.edge edge mark }) := .of_configuration (by simp)
  unfold acceptEdge; dsimp only; split
  · split
    · exact seen.trans (evaluateRun_keeps p _ _)
    · exact seen
  · exact seen

theorem freeTransmitter_configuration (p : PortId) (s : State) :
    (freeTransmitter p s).configuration = s.configuration := by
  simp [freeTransmitter]

theorem finishByte_keeps (p : PortId) (b : Bool) (s : State) : Keeps 0 s (finishByte p b s) := by
  refine Keeps.then_configuration ?_ (freeTransmitter_configuration p _)
  split
  · exact Keeps.trans (.of_configuration (itemEnd_configuration p s)) (counterEvent_keeps p .byteSent _)
  · exact (counterEvent_keeps p .byteSent s).then_configuration (itemEnd_configuration p _)

theorem takeSample_configuration (p : PortId) (high : Bool) (s : State) :
    (takeSample p high s).configuration = s.configuration := by
  unfold takeSample senseChanged; dsimp only; split
  · split <;> simp
  · simp

/-! ### What the writes of tables and settings keep -/

theorem setAddress_keeps (m : Mac) (s : State) : Keeps 0 s (setAddress m s).2 := by
  unfold setAddress; split
  next hm =>
    exact ⟨id, id, fun ⟨_, hrest⟩ => ⟨hm, hrest⟩, Nat.le_refl _, Nat.le_refl _⟩
  · exact .refl s

theorem setFrameType_keeps (n : Nat) (s : State) : Keeps 0 s (setFrameType n s).2 := by
  unfold setFrameType; split
  next hn =>
    have hw : 0x0600 ≤ (BitVec.ofNat 16 n).toNat := by rw [BitVec.toNat_ofNat]; omega
    exact ⟨id, id, fun ⟨haddress, _, hrest⟩ => ⟨haddress, hw, hrest⟩, Nat.le_refl _, Nat.le_refl _⟩
  · exact .refl s

theorem setMask_keeps (w : Word32) (s : State) : Keeps 0 s (setMask w s).2 := by
  unfold setMask; split
  next hw =>
    exact ⟨id, id, fun ⟨haddress, htype, _, hrest⟩ => ⟨haddress, htype, hw, hrest⟩,
      Nat.le_refl _, Nat.le_refl _⟩
  · exact .refl s

theorem setDestination_keeps (m : Mac) (s : State) : Keeps 0 s (setDestination m s).2 := by
  have hm : (if m = 0 then none else some m) ≠ some (0 : Mac) := by split <;> simp_all
  exact ⟨id, id, fun ⟨haddress, htype, hmask, hholdoff, _, hrest⟩ =>
    ⟨haddress, htype, hmask, hholdoff, hm, hrest⟩, Nat.le_refl _, Nat.le_refl _⟩

theorem setHoldoff_keeps (n : Nat) (s : State) : Keeps 0 s (setHoldoff n s).2 :=
  ⟨id, id, fun ⟨haddress, htype, hmask, _, hrest⟩ =>
    ⟨haddress, htype, hmask, (clampTo_bounds (Nat.zero_le _) n).2, hrest⟩, Nat.le_refl _, Nat.le_refl _⟩

theorem setSessionLimit_keeps (n : Nat) (s : State) : Keeps 0 s (setSessionLimit n s).2 := by
  unfold setSessionLimit; dsimp only; split
  · exact .refl s
  · exact ⟨id, id, fun ⟨haddress, htype, hmask, hholdoff, hdest, _, hwriter⟩ =>
      ⟨haddress, htype, hmask, hholdoff, hdest, clampTo_bounds (by decide) n, hwriter⟩,
      Nat.le_refl _, Nat.le_refl _⟩

theorem restartWriterIdle_configuration (s : State) :
    s.restartWriterIdle.configuration = s.configuration :=
  forEach_reads State.configuration (fun k t => by split <;> simp) _ s

theorem setWriterLimit_keeps (n : Nat) (s : State) : Keeps 0 s (setWriterLimit n s).2 := by
  unfold setWriterLimit; dsimp only; split
  · exact .refl s
  · refine Keeps.then_configuration ?_ (restartWriterIdle_configuration _)
    exact ⟨id, id, fun ⟨haddress, htype, hmask, hholdoff, hdest, hsession, _⟩ =>
      ⟨haddress, htype, hmask, hholdoff, hdest, hsession, (clampTo_bounds (Nat.zero_le _) n).2⟩,
      Nat.le_refl _, Nat.le_refl _⟩

theorem applyComparator_keeps (i : ComparatorId) (c : Comparator) (s : State) :
    Keeps 0 s (applyComparator i c s) := by
  unfold applyComparator; dsimp only; split
  · split
    · exact Keeps.trans (.of_configuration (modComparator_configuration _ _ _)) (fireComparator_keeps i _)
    · exact .of_configuration (modComparator_configuration _ _ _)
  · exact .of_configuration (modComparator_configuration _ _ _)

/-! ### What start-up and the warm restart keep -/

theorem loadSettings_keeps (r : RawSettings) (s : State) : Keeps 0 s (loadSettings r s) :=
  (setAddress_keeps _ _).trans <| (setFrameType_keeps _ _).trans <| (setMask_keeps _ _).trans <|
    (setDestination_keeps _ _).trans <| (setHoldoff_keeps _ _).trans <|
    (setSessionLimit_keeps _ _).trans <| setWriterLimit_keeps _ _

theorem loadProfile_keeps (n : Nat) (r : RawProfile) (s : State) : Keeps 0 s (loadProfile n r s) := by
  unfold loadProfile; split
  · exact .refl s
  · split
    next hf => exact .modPort id fun h => ⟨checkProfile_inRange hf, h.2⟩
    · exact .refl s

theorem loadStation_configuration (w : StationWrite) (s : State) :
    (loadStation w s).configuration = s.configuration := by
  unfold loadStation; split <;> simp

theorem loadAllocation_configuration (blocks : List Nat) (s : State) :
    (loadAllocation blocks s).configuration = s.configuration := by
  unfold loadAllocation; split <;> simp

theorem loadPattern_configuration (w : PatternWrite) (s : State) :
    (loadPattern w s).configuration = s.configuration := by
  unfold loadPattern; split <;> simp

theorem loadKeyin_configuration (w : KeyinWrite) (s : State) :
    (loadKeyin w s).configuration = s.configuration := by
  unfold loadKeyin; split
  · rfl
  · split <;> simp

theorem loadComparator_keeps (w : ComparatorWrite) (s : State) : Keeps 0 s (loadComparator w s) := by
  unfold loadComparator; split
  · exact applyComparator_keeps _ _ s
  · exact .refl s

theorem loadRecord_keeps (step : LoadStep) (r : ImageRecord) (s : State) :
    Keeps 0 s (loadRecord step r s) := by
  unfold loadRecord; split
  · exact loadSettings_keeps _ s
  · split
    · exact .of_configuration (loadStation_configuration _ s)
    · exact .refl s
  · exact .of_configuration (loadAllocation_configuration _ s)
  · exact loadProfile_keeps _ _ s
  · exact .of_configuration (loadPattern_configuration _ s)
  · exact .of_configuration (loadKeyin_configuration _ s)
  · split
    · exact loadComparator_keeps _ s
    · exact .refl s
  · exact .refl s

theorem loadImage_keeps (b : Bool) (s : State) : Keeps 0 s (loadImage b s) := by
  have steps := fun (xs : List LoadStep) (t : State) =>
    Keeps.forEach (xs := xs) (f := loadStep (imageRecordsOf s.memory))
      (fun x u => .forEach (loadRecord_keeps x) u) t
  unfold loadImage; dsimp only; split
  · exact ((steps _ s).then_configuration (applyCommission_configuration b _)).trans (steps _ _)
  · exact .of_configuration (by simp)

theorem startPort_keeps (p : PortId) (s : State) : Keeps 0 s (startPort p s) := by
  unfold startPort; split
  · exact profileSwitch_keeps p _ 4 s
  · exact .refl s

theorem openReceive_configuration (s : State) : (openReceive s).configuration = s.configuration := rfl

theorem startUp_keeps (b : Bool) (s : State) : Keeps 0 s (startUp b s) := by
  unfold startUp
  exact ((loadImage_keeps b s).trans (.forEach startPort_keeps _)).then_configuration
    (openReceive_configuration _)

theorem restartSession_configuration (k : SlotId) (s : State) :
    (restartSession k s).configuration = s.configuration := by
  unfold restartSession; split <;> simp

theorem restartQueues_configuration (p : PortId) (s : State) :
    (restartQueues p s).configuration = s.configuration := by
  unfold restartQueues; dsimp only
  rw [forEach_reads State.configuration fun e => endRecord_configuration e _]
  simp

theorem zeroCounts_configuration (s : State) : (zeroCounts s).configuration = s.configuration := by
  simp [State.configuration, zeroCounts, State.port]

theorem rearmTables_configuration (s : State) : (rearmTables s).configuration = s.configuration := rfl

theorem restartLine_keeps (p : PortId) (s : State) : Keeps 0 s (restartLine p s) := by
  unfold restartLine; split
  · exact .of_configuration (clearWindows_configuration p s)
  · exact profileSwitch_keeps p _ 3 s

theorem warmEffects_keeps (s : State) : Keeps 0 s (warmEffects s) := by
  refine Keeps.trans (.of_configuration ?_) (.forEach restartLine_keeps _)
  rw [rearmTables_configuration, zeroCounts_configuration,
    forEach_reads State.configuration restartQueues_configuration,
    forEach_reads State.configuration restartSession_configuration]

theorem tick_configuration (s : State) : (tick s).configuration = s.configuration := by
  simp [State.configuration, tick, State.port, Port.tick]

/-! ### What the frame engine's services keep -/

theorem serveSeek_keeps (c : Ctx) (x : Nat × Pos) (s : State) : Keeps 1 s (serveSeek c x s) := by
  unfold serveSeek; split
  · exact Keeps.reply (.of_configuration (by simp)) _ _ _
  · exact reply_keeps c .range [] s

theorem appendItems_configuration (p : PortId) (items : List QueueItem) (s : State) :
    (appendItems p items s).configuration = s.configuration := by
  simp [appendItems]

theorem writerInput_configuration (k : SlotId) (a : Attachment) (x : Word32) (bytes : List Byte)
    (s : State) : (writerInput k a x bytes s).configuration = s.configuration := by
  unfold writerInput; split <;> simp [appendItems_configuration]

theorem serveInput_configuration (c : Ctx) (i : Word32 × List Byte) (s : State) :
    (serveInput c i s).configuration = s.configuration := by
  unfold serveInput; dsimp only; split
  · rfl
  · split
    · simp
    · split
      · simp
      · exact writerInput_configuration _ _ _ _ s

theorem serveBreak_keeps (c : Ctx) (s : State) : Keeps 1 s (serveBreak c s) := by
  unfold serveBreak; split
  · exact reply_keeps c .notWriter [] s
  · split
    · exact reply_keeps c .notWriter [] s
    · split
      · exact reply_keeps c .portDisabled [] s
      · split
        · exact reply_keeps c .full [] s
        · exact Keeps.reply (.of_configuration (appendItems_configuration _ _ s)) _ _ _

theorem serveRelease_keeps (c : Ctx) (n : Nat) (s : State) : Keeps 1 s (serveRelease c n s) := by
  unfold serveRelease; split
  · exact reply_keeps c .range [] s
  · split
    · exact Keeps.reply (.of_configuration (releaseHold_configuration _ s)) _ _ _
    · exact reply_keeps c .refusedAccess [] s

theorem servePulse_keeps (c : Ctx) (n : Nat) (s : State) : Keeps 1 s (servePulse c n s) := by
  unfold servePulse; split
  · exact reply_keeps c .refusedAccess [] s
  · split
    · exact reply_keeps c .range [] s
    · split
      · exact reply_keeps c .refusedAccess [] s
      · split
        · exact reply_keeps c _ [] s
        · exact Keeps.reply (.of_configuration (startPulse_configuration _ s)) _ _ _

theorem withEntry_keeps (c : Ctx) (n : Nat) {act : KeyinId → State → State} {s : State}
    (h : ∀ e, Keeps 1 s (act e s)) : Keeps 1 s (withEntry c n act s) := by
  unfold withEntry; split
  · exact reply_keeps c .refusedAccess [] s
  · split
    · exact reply_keeps c .range [] s
    · split
      · exact reply_keeps c .refusedAccess [] s
      · exact h _

theorem startRequested_keeps (c : Ctx) (e : KeyinId) (s : State) :
    Keeps 1 s (startRequested c e s) := by
  unfold startRequested; split
  · exact reply_keeps c .range [] s
  · split
    · exact reply_keeps c .inUse [] s
    · split
      · exact reply_keeps c .portDisabled [] s
      · exact Keeps.reply (.of_configuration (by simp)) _ _ _

theorem stopRequested_keeps (c : Ctx) (e : KeyinId) (s : State) :
    Keeps 1 s (stopRequested c e s) := by
  unfold stopRequested; split <;> exact Keeps.reply (.of_configuration (by simp)) _ _ _

theorem armRequested_keeps (c : Ctx) (e : KeyinId) (s : State) : Keeps 1 s (armRequested c e s) := by
  unfold armRequested; split
  · exact reply_keeps c .range [] s
  · split
    · exact reply_keeps c .inUse [] s
    · exact Keeps.reply (.of_configuration (modKeyin_configuration _ _ _)) _ _ _

theorem rearmRequested_keeps (c : Ctx) (i p : Nat) (s : State) :
    Keeps 1 s (rearmRequested c i p s) := by
  unfold rearmRequested; split
  · exact reply_keeps c .range [] s
  · split
    · exact reply_keeps c .range [] s
    · split
      · exact reply_keeps c .range [] s
      · split
        · split
          · exact reply_keeps c .range [] s
          · split
            · exact reply_keeps c .refusedAccess [] s
            · exact Keeps.reply (.of_configuration (modPattern_configuration _ _ _)) _ _ _
        · exact Keeps.reply (.forEach (fun p t => .of_configuration (modPattern_configuration t _ _)) s) _ _ _

theorem serveRearm_keeps (c : Ctx) (x : Nat × Nat) (s : State) :
    Keeps 1 s (if !(s.stationOf c).rights.keyin then reply c .refusedAccess [] s
      else rearmRequested c x.1 x.2 s) := by
  split
  · exact reply_keeps c .refusedAccess [] s
  · exact rearmRequested_keeps c x.1 x.2 s

theorem serveStationWrite_keeps (c : Ctx) (w : StationWrite) (s : State) :
    Keeps 1 s (serveStationWrite c w s) := by
  unfold serveStationWrite; split
  · exact Keeps.reply (.of_configuration (applyStation_configuration _ _ s)) _ _ _
  · exact reply_keeps c .range [] s

theorem servePatternWrite_keeps (c : Ctx) (w : PatternWrite) (s : State) :
    Keeps 1 s (servePatternWrite c w s) := by
  unfold servePatternWrite; split
  · exact Keeps.reply (.of_configuration (applyPattern_configuration _ _ s)) _ _ _
  · exact reply_keeps c .range [] s

theorem serveComparatorWrite_keeps (c : Ctx) (w : ComparatorWrite) (s : State) :
    Keeps 1 s (serveComparatorWrite c w s) := by
  unfold serveComparatorWrite; split
  · exact (applyComparator_keeps _ _ s).reply _ _ _
  · exact reply_keeps c .range [] s

theorem serveKeyinWrite_keeps (c : Ctx) (w : KeyinWrite) (s : State) :
    Keeps 1 s (serveKeyinWrite c w s) := by
  unfold serveKeyinWrite; split
  · exact reply_keeps c .range [] s
  · split
    · exact reply_keeps c .inUse [] s
    · split
      · exact Keeps.reply (.of_configuration (applyKeyin_configuration _ _ s)) _ _ _
      · exact reply_keeps c .range [] s

theorem serveStationRead_keeps (c : Ctx) (n : Nat) (s : State) : Keeps 1 s (serveStationRead c n s) := by
  unfold serveStationRead; split <;> exact reply_keeps c _ _ s

theorem servePatternRead_keeps (c : Ctx) (n : Nat) (s : State) : Keeps 1 s (servePatternRead c n s) := by
  unfold servePatternRead; split <;> exact reply_keeps c _ _ s

theorem serveComparatorRead_keeps (c : Ctx) (n : Nat) (s : State) : Keeps 1 s (serveComparatorRead c n s) := by
  unfold serveComparatorRead; split <;> exact reply_keeps c _ _ s

theorem serveKeyinRead_keeps (c : Ctx) (n : Nat) (s : State) : Keeps 1 s (serveKeyinRead c n s) := by
  unfold serveKeyinRead; split <;> exact reply_keeps c _ _ s

theorem servePortStatus_keeps (c : Ctx) (n : Nat) (s : State) : Keeps 1 s (servePortStatus c n s) := by
  unfold servePortStatus; split <;> exact reply_keeps c _ _ s

theorem serveProfileWriteActive_keeps (c : Ctx) (x : Nat × RawProfile) (s : State) :
    Keeps 1 s (serveProfileWriteActive c x s) := by
  unfold serveProfileWriteActive; split
  · exact reply_keeps c .range [] s
  · split
    next hf => exact (applyActive_keeps (checkProfile_inRange hf) _ 0 s).reply _ _ _
    · exact reply_keeps c .range [] s

theorem setStaged_keeps {f : Option Profile} (hf : ∀ g ∈ f, g.inRange) (p : PortId) (s : State) :
    Keeps 0 s (setStaged p f s) :=
  .modPort id fun h => ⟨h.1, hf⟩

theorem serveProfileWriteStaged_keeps (c : Ctx) (x : Nat × Option RawProfile) (s : State) :
    Keeps 1 s (serveProfileWriteStaged c x s) := by
  unfold serveProfileWriteStaged; split
  · exact reply_keeps c .range [] s
  · split
    · exact (setStaged_keeps (by simp) _ s).reply _ _ _
    · split
      next hf =>
        exact (setStaged_keeps (by simpa using checkProfile_inRange hf) _ s).reply _ _ _
      · exact reply_keeps c .range [] s

theorem serveAllocate_keeps (c : Ctx) (blocks : List Nat) (s : State) :
    Keeps 1 s (serveAllocate c blocks s) := by
  unfold serveAllocate; split
  · exact Keeps.reply (.of_configuration (applyVector_configuration blocks s)) _ _ _
  · exact reply_keeps c .range [] s

theorem serveCounterReset_keeps (c : Ctx) (x : Nat × Nat) (s : State) :
    Keeps 1 s (serveCounterReset c x s) := by
  unfold serveCounterReset; split
  · exact (counterEvent_keeps _ _ s).reply _ _ _
  · exact reply_keeps c .range [] s

theorem servePortRestart_keeps (c : Ctx) (n : Nat) (s : State) :
    Keeps 1 s (servePortRestart c n s) := by
  unfold servePortRestart; split
  · exact (restartPort_keeps _ s).reply _ _ _
  · exact reply_keeps c .range [] s

theorem serveSetting_keeps {α : Type} {set : α → State → Result × State}
    (h : ∀ x s, Keeps 0 s (set x s).2) (c : Ctx) (x : α) (s : State) :
    Keeps 1 s (serveSetting set c x s) :=
  (h x s).reply c _ []

theorem serveOpen_keeps (c : Ctx) (s : State) : Keeps 1 s (serveOpen c s) := by
  unfold serveOpen; split
  · exact reply_keeps c .refusedAccess [] s
  · split
    · exact reply_keeps c .limit [] s
    · split
      · exact reply_keeps c .noSlot [] s
      · exact Keeps.reply (.of_configuration (modSession_configuration _ _ _)) _ _ _

theorem attachTo_keeps (c : Ctx) (r : AttachRequest) (a : AttachPlan) (s : State) :
    Keeps 1 s (attachTo c r a s) := by
  unfold attachTo; dsimp only
  refine Keeps.reply (.of_configuration ?_) _ _ _
  split <;> simp

theorem serveAttach_keeps (c : Ctx) (r : AttachRequest) (s : State) :
    Keeps 1 s (serveAttach c r s) := by
  unfold serveAttach; split
  · exact reply_keeps c .range [] s
  · split
    · exact reply_keeps c .refusedAccess [] s
    · split
      · exact reply_keeps c .portDisabled [] s
      · split
        · exact reply_keeps c .inUse [] s
        · exact attachTo_keeps c r _ s

theorem serveSave_keeps (c : Ctx) (s : State) : Keeps 1 s (serveSave c s) :=
  Keeps.reply (s := s) (t := { s with saving := some s.imageRecords }) (.of_configuration rfl) c .ok []

theorem serveWarmRestart_keeps (c : Ctx) (s : State) : Keeps 1 s (serveWarmRestart c s) :=
  (reply_keeps c .ok [] s).andThen (warmEffects_keeps _)

theorem managed_keeps {isWrite : Bool} {c : Ctx} {act : State → State} {s : State}
    (h : Keeps 1 s (act s)) : Keeps 1 s (managed isWrite c act s) := by
  unfold managed; split
  · exact reply_keeps c .refusedAccess [] s
  · split
    · exact reply_keeps c .saveActive [] s
    · exact h

theorem sendData_configuration (k : SlotId) (s : State) :
    (sendData k s).configuration = s.configuration := by
  unfold sendData; split
  · rfl
  · split
    · rfl
    · rfl

/-! ### What one command keeps -/

/-- What a step from s to t keeps: the divisors, the profiles, the settings and the bound on the uplink
queues. -/
structure StepKeeps (s t : State) : Prop where
  divisors : s.divisorsLegal → t.divisorsLegal
  profiles : s.profilesInRange → t.profilesInRange
  settings : s.settingsLegal → t.settingsLegal
  queues : s.queuesBounded → t.queuesBounded

/-- Where the command has a next state, the step to it keeps the values. -/
def StaysInRange (s : State) (o : Host.Outcome State Fault Refusal) : Prop :=
  ∀ t, o = .next t → StepKeeps s t

theorem Keeps.stepKeeps {n : Nat} {s t : State} (h : Keeps n s t)
    (room : s.queuesBounded → s.uplink.replies.length + n ≤ Config.uplinkFrames) : StepKeeps s t :=
  { h with
    queues := fun hs => ⟨Nat.le_trans h.received hs.1, Nat.le_trans h.replies (room hs)⟩ }

theorem StaysInRange.of_stepKeeps {s t : State} (h : StepKeeps s t) : StaysInRange s (.next t) := by
  rintro _ ⟨⟩
  exact h

theorem StaysInRange.next {s t : State} (h : Keeps 0 s t) : StaysInRange s (.next t) :=
  .of_stepKeeps (h.stepKeeps fun hs => hs.2)

theorem StaysInRange.same (s : State) : StaysInRange s (.next s) := .next (.refl s)

theorem StaysInRange.settled {s t : State} (h : Keeps 0 s t) : StaysInRange s (.next (settle t)) :=
  .next (h.then_configuration (settle_configuration t))

/-- The frame engine takes a frame only where the reply queue has room for its REPLY (R172). -/
theorem replies_of_oldestFrame {s : State} {f : RxFrame} (h : s.oldestFrame = some f) :
    s.uplink.replies.length < Config.uplinkFrames := by
  unfold State.oldestFrame at h
  split at h
  · assumption
  · cases h

theorem removeFrame_keeps (s : State) : Keeps 0 s (removeFrame s) :=
  ⟨id, id, id, by simp [removeFrame], Nat.le_refl _⟩

theorem accept_keeps (f : RxFrame) (s : State) : Keeps 0 s (accept f s) := by
  refine (removeFrame_keeps s).then_configuration ?_
  unfold accept; dsimp only; split
  · rfl
  · rfl

/-- A served frame leaves one REPLY at most, for which the queue has room. -/
theorem serve_staysInRange {α : Type} {pick : Request → Option α} {act : Ctx → α → State → State}
    (h : ∀ c a s, Keeps 1 s (act c a s)) (s : State) : StaysInRange s (serve pick act s) := by
  unfold serve; split
  · exact .same s
  next f hf =>
    split
    · split
      · exact .of_stepKeeps ((((accept_keeps f s).trans (h _ _ _)).then_configuration
          (settle_configuration _)).stepKeeps fun _ => replies_of_oldestFrame hf)
      · exact .same s
    · exact .same s

theorem serveManage_staysInRange {α : Type} {isWrite : Bool} {pick : Manage → Option α}
    {act : Ctx → α → State → State} (h : ∀ c a s, Keeps 1 s (act c a s)) (s : State) :
    StaysInRange s (serveManage isWrite pick act s) :=
  serve_staysInRange (fun c a t => managed_keeps (h c a t)) s

theorem execCredit_staysInRange (s : State) : StaysInRange s (execCredit s) := by
  unfold execCredit
  exact serve_staysInRange
    (fun c _ t => .one (.of_configuration (modAttachment_configuration t c.session _))) s

/-! ### The uplink's commands -/

theorem defaultAddress_individual (straps : BitVec 5) : individual (defaultAddress straps) = true := by
  revert straps; decide

theorem reset_settings : 0x0600 ≤ (Uplink.reset 0).frameType.toNat ∧
    State.reset.notice.mask.toNat < 2 ^ 11 ∧ State.reset.notice.holdoff ≤ 255 ∧
    State.reset.notice.destination ≠ some 0 ∧
    (10 ≤ State.reset.sessionLimit ∧ State.reset.sessionLimit ≤ 3600) ∧
    State.reset.writerLimit ≤ 3600 := by decide

theorem coldState_port (x : ColdInputs) (s : State) (p : PortId) :
    (coldState x s).port p = Port.reset (s.port p).rxMark (s.port p).auxBHigh := by
  simp [coldState, State.port]

/-- Cold reset puts every value in its range, whatever it finds. -/
theorem execColdReset_staysInRange (x : ColdInputs) (s : State) :
    StaysInRange s (execColdReset x s) := by
  have started := (startUp_keeps x.commission (coldState x s)).then_configuration
    (settle_configuration _)
  refine .of_stepKeeps ⟨fun _ => started.divisors fun p => ?_, fun _ => started.profiles fun p => ?_,
    fun _ => started.settings ?_, fun _ => ⟨Nat.le_trans started.received (Nat.zero_le _),
      Nat.le_trans started.replies (Nat.zero_le _)⟩⟩
  · rw [coldState_port]; exact ⟨by simp [Port.reset], by simp [Port.reset]⟩
  · rw [coldState_port]; exact ⟨default_inRange, by simp [Port.reset]⟩
  · exact ⟨defaultAddress_individual x.straps, reset_settings⟩

theorem execFrameReceive_staysInRange (bytes : List Byte) (bad : Bool) (s : State) :
    StaysInRange s (execFrameReceive bytes bad s) := by
  have count := fun f => StaysInRange.next (.of_configuration (countUplink_configuration s f))
  unfold execFrameReceive receiveFrame; split
  · exact .same s
  · split
    · exact count _
    · split
      · exact count _
      · split
        · exact count _
        · split
          · exact count _
          next hroom =>
            exact .of_stepKeeps ⟨id, id, id, fun hs => ⟨by
              rw [List.length_append, List.length_singleton]; omega, hs.2⟩⟩

theorem execMalformedFrame_staysInRange (s : State) : StaysInRange s (execMalformedFrame s) := by
  have drop := fun f => StaysInRange.next
    ((removeFrame_keeps s).then_configuration (countUplink_configuration (removeFrame s) f))
  unfold execMalformedFrame; split
  · exact .same s
  · split
    · exact drop _
    · exact drop _
    · exact drop _
    · exact .same s

theorem execUnknownKind_staysInRange (s : State) : StaysInRange s (execUnknownKind s) := by
  unfold execUnknownKind; split
  · split
    next hf =>
      exact .of_stepKeeps (((removeFrame_keeps s).reply _ _ _).stepKeeps
        fun _ => replies_of_oldestFrame hf)
    · exact .same s
  · exact serve_staysInRange (fun c _ t => managed_keeps (reply_keeps c .range [] t)) s

theorem execReplyTurn_staysInRange (s : State) : StaysInRange s (execReplyTurn s) := by
  unfold execReplyTurn; split
  · exact .same s
  next r rest hr =>
    refine .next (.then_configuration ?_ (sendFrame_configuration _ _ _))
    exact ⟨id, id, id, Nat.le_refl _, by simp [hr]⟩

theorem execNoticeTurn_staysInRange (s : State) : StaysInRange s (execNoticeTurn s) := by
  unfold execNoticeTurn; split
  · split
    · exact .next (.of_configuration rfl)
    · exact .same s
  · exact .same s

theorem execDataTurn_staysInRange (s : State) : StaysInRange s (execDataTurn s) := by
  unfold execDataTurn; split
  · split
    · exact .settled (.of_configuration (sendData_configuration _ s))
    · exact .same s
  · exact .same s

theorem execSaveDone_staysInRange (s : State) : StaysInRange s (execSaveDone s) := by
  unfold execSaveDone; split
  · exact .same s
  · exact .next (.of_configuration (raise_configuration _ _ _ _))

theorem execSaveFailed_staysInRange (s : State) : StaysInRange s (execSaveFailed s) := by
  unfold execSaveFailed; split
  · exact .same s
  · exact .next (.of_configuration (raise_configuration _ _ _ _))

/-! ### The events of sessions, lines and key-in entries -/

theorem demoteWriter_configuration (k : SlotId) (s : State) :
    (demoteWriter k s).configuration = s.configuration := by
  unfold demoteWriter; split
  · rfl
  · simp [setIdleDemoted]

theorem execSessionIdleExpiry_staysInRange (k : SlotId) (s : State) :
    StaysInRange s (execSessionIdleExpiry k s) := by
  unfold execSessionIdleExpiry; split
  · exact .settled (.of_configuration (by simp))
  · exact .same s

theorem execWriterIdleExpiry_staysInRange (k : SlotId) (s : State) :
    StaysInRange s (execWriterIdleExpiry k s) := by
  unfold execWriterIdleExpiry; split
  · exact .settled (.of_configuration (demoteWriter_configuration k s))
  · exact .same s

theorem execByteStored_staysInRange (p : PortId) (data : Byte) (b : Bool) (order : StoreOrder)
    (s : State) : StaysInRange s (execByteStored p data b order s) := by
  unfold execByteStored; split
  · exact .settled (storeCharacter_keeps p data b order s)
  · exact .same s

theorem execFramingError_staysInRange (p : PortId) (s : State) :
    StaysInRange s (execFramingError p s) := by
  unfold execFramingError; split
  · exact .settled (.trans (.of_configuration (by simp)) (counterEvent_keeps p .framingError _))
  · exact .same s

theorem execBreakRecorded_staysInRange (p : PortId) (s : State) :
    StaysInRange s (execBreakRecorded p s) := by
  unfold execBreakRecorded; split
  · exact .settled (recordBreak_keeps p s)
  · exact .same s

theorem execDeadThreshold_staysInRange (p : PortId) (s : State) :
    StaysInRange s (execDeadThreshold p s) := by
  unfold execDeadThreshold; split
  · exact .settled (deadFromLive_keeps p s)
  · exact .settled (enterDead_keeps p s)
  · exact .same s

theorem execLiveQualification_staysInRange (p : PortId) (s : State) :
    StaysInRange s (execLiveQualification p s) := by
  unfold execLiveQualification; split
  · exact .settled (.of_configuration (leaveDead_configuration p s))
  · exact .same s

theorem execDetectorRun_staysInRange (p : PortId) (edge : Edge) (mark : Bool) (s : State) :
    StaysInRange s (execDetectorRun p edge mark s) := by
  unfold execDetectorRun; split
  · exact .settled (acceptEdge_keeps p edge.tick mark s)
  · exact .next (.of_configuration (by simp))

theorem execDetectionWindowExpiry_staysInRange (p : PortId) (s : State) :
    StaysInRange s (execDetectionWindowExpiry p s) := by
  unfold execDetectionWindowExpiry; split
  · exact .next (.of_configuration (by simp))
  · exact .same s

theorem chooseWithLevel_configuration (p : PortId) (high : Bool) (s : State) :
    (chooseWithLevel p high s).configuration = s.configuration := by
  simp [chooseWithLevel]

theorem execCtsAssert_staysInRange (p : PortId) (s : State) : StaysInRange s (execCtsAssert p s) := by
  unfold execCtsAssert; split
  · exact .settled (.of_configuration (chooseWithLevel_configuration p false s))
  · exact .next (.of_configuration (by simp))

theorem execByteSent_staysInRange (p : PortId) (b : Bool) (s : State) :
    StaysInRange s (execByteSent p b s) := by
  unfold execByteSent; split
  · exact .settled (finishByte_keeps p b s)
  · exact .same s

theorem execBreakTokenEnd_staysInRange (p : PortId) (s : State) :
    StaysInRange s (execBreakTokenEnd p s) := by
  unfold execBreakTokenEnd; split
  · exact .settled (.of_configuration
      ((freeTransmitter_configuration p _).trans (itemEnd_configuration p s)))
  · exact .same s

theorem intervalExpiry_configuration (e : KeyinId) (s : State) :
    (intervalExpiry e s).configuration = s.configuration := by
  unfold intervalExpiry; split
  · rfl
  · split <;> simp

theorem execPulseTimerExpiry_staysInRange (p : PortId) (s : State) :
    StaysInRange s (execPulseTimerExpiry p s) := by
  unfold execPulseTimerExpiry; split
  · exact .settled (.of_configuration (by simp [endPulse]))
  · exact .same s

theorem execSenseSample_staysInRange (p : PortId) (high : Bool) (s : State) :
    StaysInRange s (execSenseSample p high s) := by
  unfold execSenseSample; split
  · exact .settled (.of_configuration (takeSample_configuration p high s))
  · exact .next (.of_configuration (by simp))

/-! ### Every step -/

/-- No command takes a divisor, a profile, a setting or an uplink queue out of its range. -/
theorem exec_staysInRange (c : Instr) (s : State) : StaysInRange s (exec c s) := by
  cases c with
  | coldReset x => exact execColdReset_staysInRange x s
  | frameReceive bytes bad => exact execFrameReceive_staysInRange bytes bad s
  | malformedFrame => exact execMalformedFrame_staysInRange s
  | unknownKind => exact execUnknownKind_staysInRange s
  | probe => exact serve_staysInRange (fun c _ s => reply_keeps c .ok s.probeValues s) s
  | openSession => exact serve_staysInRange (fun c _ => serveOpen_keeps c) s
  | closeSession =>
    exact serve_staysInRange
      (fun c _ s => (Keeps.of_configuration (closeSession_configuration c.session s)).reply c .ok []) s
  | attach => exact serve_staysInRange serveAttach_keeps s
  | detach =>
    exact serve_staysInRange
      (fun c _ s => (Keeps.of_configuration (detachSession_configuration c.session s)).reply c .ok []) s
  | seek => exact serve_staysInRange serveSeek_keeps s
  | credit => exact execCredit_staysInRange s
  | input =>
    exact serve_staysInRange (fun c i s => Keeps.one (.of_configuration (serveInput_configuration c i s))) s
  | breakRequest => exact serve_staysInRange (fun c _ => serveBreak_keeps c) s
  | release => exact serve_staysInRange serveRelease_keeps s
  | pulse => exact serve_staysInRange servePulse_keeps s
  | keyinStart =>
    exact serve_staysInRange (fun c n t => withEntry_keeps c n fun e => startRequested_keeps c e t) s
  | keyinStop =>
    exact serve_staysInRange (fun c n t => withEntry_keeps c n fun e => stopRequested_keeps c e t) s
  | arm =>
    exact serve_staysInRange (fun c n t => withEntry_keeps c n fun e => armRequested_keeps c e t) s
  | rearm => exact serve_staysInRange serveRearm_keeps s
  | stationWrite => exact serveManage_staysInRange serveStationWrite_keeps s
  | stationRead => exact serveManage_staysInRange serveStationRead_keeps s
  | patternWrite => exact serveManage_staysInRange servePatternWrite_keeps s
  | patternRead => exact serveManage_staysInRange servePatternRead_keeps s
  | comparatorWrite => exact serveManage_staysInRange serveComparatorWrite_keeps s
  | comparatorRead => exact serveManage_staysInRange serveComparatorRead_keeps s
  | keyinWrite => exact serveManage_staysInRange serveKeyinWrite_keeps s
  | keyinRead => exact serveManage_staysInRange serveKeyinRead_keeps s
  | profileWriteActive => exact serveManage_staysInRange serveProfileWriteActive_keeps s
  | profileWriteStaged => exact serveManage_staysInRange serveProfileWriteStaged_keeps s
  | portStatus => exact serveManage_staysInRange servePortStatus_keeps s
  | allocate => exact serveManage_staysInRange serveAllocate_keeps s
  | allocationRead =>
    exact serveManage_staysInRange (fun c _ s => reply_keeps c .ok s.allocationValues s) s
  | counterReset => exact serveManage_staysInRange serveCounterReset_keeps s
  | portRestart => exact serveManage_staysInRange servePortRestart_keeps s
  | stationAddressWrite => exact serveManage_staysInRange (serveSetting_keeps setAddress_keeps) s
  | frameTypeWrite => exact serveManage_staysInRange (serveSetting_keeps setFrameType_keeps) s
  | noticeDestinationWrite =>
    exact serveManage_staysInRange (serveSetting_keeps setDestination_keeps) s
  | noticeMaskWrite => exact serveManage_staysInRange (serveSetting_keeps setMask_keeps) s
  | holdoffWrite => exact serveManage_staysInRange (serveSetting_keeps setHoldoff_keeps) s
  | sessionIdleLimitWrite =>
    exact serveManage_staysInRange (serveSetting_keeps setSessionLimit_keeps) s
  | writerIdleLimitWrite =>
    exact serveManage_staysInRange (serveSetting_keeps setWriterLimit_keeps) s
  | settingsRead => exact serveManage_staysInRange (fun c _ s => reply_keeps c .ok s.settingsValues s) s
  | noticeRead => exact serveManage_staysInRange (fun c _ s => reply_keeps c .ok s.noticeValues s) s
  | save => exact serveManage_staysInRange (fun c _ => serveSave_keeps c) s
  | saveDone => exact execSaveDone_staysInRange s
  | saveFailed => exact execSaveFailed_staysInRange s
  | warmRestart => exact serveManage_staysInRange (fun c _ => serveWarmRestart_keeps c) s
  | replyTurn => exact execReplyTurn_staysInRange s
  | noticeTurn => exact execNoticeTurn_staysInRange s
  | dataTurn => exact execDataTurn_staysInRange s
  | gatherTimerExpiry k => exact .next (.of_configuration (modAttachment_configuration s k _))
  | sessionIdleExpiry k => exact execSessionIdleExpiry_staysInRange k s
  | writerIdleExpiry k => exact execWriterIdleExpiry_staysInRange k s
  | holdoffTimerExpiry => exact .next (.of_configuration rfl)
  | byteStored p data b order => exact execByteStored_staysInRange p data b order s
  | framingError p => exact execFramingError_staysInRange p s
  | breakRecorded p => exact execBreakRecorded_staysInRange p s
  | deadThreshold p => exact execDeadThreshold_staysInRange p s
  | liveQualification p => exact execLiveQualification_staysInRange p s
  | detectorRun p edge mark => exact execDetectorRun_staysInRange p edge mark s
  | detectionWindowExpiry p => exact execDetectionWindowExpiry_staysInRange p s
  | switchingEnd p => exact .settled (settleSwitching_keeps p s)
  | transmitterChoice p high =>
    exact .settled (.of_configuration (chooseWithLevel_configuration p high s))
  | byteSent p b => exact execByteSent_staysInRange p b s
  | breakTokenEnd p => exact execBreakTokenEnd_staysInRange p s
  | intervalTimerExpiry e => exact .settled (.of_configuration (intervalExpiry_configuration e s))
  | ctsAssert p => exact execCtsAssert_staysInRange p s
  | pulseTimerExpiry p => exact execPulseTimerExpiry_staysInRange p s
  | senseSample p high => exact execSenseSample_staysInRange p high s
  | spaceRunEnd p => exact .next (.of_configuration (modPort_configuration _ _ _ fun _ => rfl))

theorem step_keeps {s t : State} (h : step s = .next t) : StepKeeps s t := by
  unfold step at h
  split at h
  · exact StaysInRange.next (.of_configuration (tick_configuration s)) t h
  next c rest _ =>
    obtain ⟨hdivisors, hprofiles, hsettings, hqueues⟩ := exec_staysInRange c { s with pending := rest } t h
    exact ⟨hdivisors, hprofiles, hsettings, hqueues⟩

/-- Settles O6: no command moves a divisor or a checked value out of its range, nor a ninth frame into
an uplink queue. -/
theorem divisorsAndStoredValuesStayInRange : Obligations.DivisorsAndStoredValuesStayInRange := by
  refine ⟨fun s t hs h => (step_keeps h).divisors hs, fun s t hprofiles hsettings hqueues h => ?_⟩
  exact ⟨(step_keeps h).profiles hprofiles, (step_keeps h).settings hsettings,
    (step_keeps h).queues hqueues⟩

end Sys2Proof.Machine
end

section
/-! PROOFS. Line rate arithmetic over the integers, and the expiry of a detection window. -/

namespace Sys2Proof.Machine

/-! ### Line rate arithmetic (R29, R36) -/

/-- In 300..1,152,000 the clamp of R29 changes nothing. -/
theorem divisorOf_eq_div {r : Nat} (hlo : 300 ≤ r) (hhi : r ≤ 1152000) :
    divisorOf r = (36864000 + r) / (2 * r) := by
  have hmin : 16 ≤ (36864000 + r) / (2 * r) := (Nat.le_div_iff_mul_le (by omega)).2 (by omega)
  have hmax : (36864000 + r) / (2 * r) < 65536 := (Nat.div_lt_iff_lt_mul (by omega)).2 (by omega)
  unfold divisorOf clampTo Config.refClock
  rw [if_neg (by omega), if_neg (by omega)]

/-- The divisor n of a legal rate is nearest to 18,432,000/r: the quotient lies in n - 1/2 .. n + 1/2. -/
theorem divisorOf_nearest {r : Nat} (hlo : 300 ≤ r) (hhi : r ≤ 1152000) :
    2 * divisorOf r * r ≤ 36864000 + r ∧ 36864000 + r < 2 * (divisorOf r + 1) * r := by
  rw [divisorOf_eq_div hlo hhi, mul_right_comm 2 _ r, mul_right_comm 2 _ r]
  exact ⟨Nat.mul_div_le _ _, Nat.lt_mul_div_succ _ (by omega)⟩

/-- The distance of R36, which the model takes by truncated subtractions, is that of the integers. -/
theorem rateDistance_eq_abs (m r : Nat) : (rateDistance m r : Int) = |(m : Int) * r - 36864000| := by
  have hcast : (m : Int) * r = ((m * r : Nat) : Int) := (Nat.cast_mul m r).symm
  rw [hcast, abs_eq_max_neg]
  unfold rateDistance Config.refClock
  omega

theorem admissible_iff (tolerance m r : Nat) : admissible tolerance m r = true ↔
    64 * |(m : Int) * r - 36864000| ≤ 36864000 * tolerance := by
  rw [← rateDistance_eq_abs]
  unfold admissible Config.refClock
  rw [decide_eq_true_iff]
  omega

/-! ### The detection window's expiry (R35) -/

theorem detectionWindowExpiry_reopens {s : State} {p : PortId} (hstate : (s.port p).state = .detecting)
    (htimer : (s.port p).detector.timer ≠ none) :
    exec (.detectionWindowExpiry p) s = .next (s.withPort p { s.port p with
      detector := (s.port p).detector.reopened (s.port p).active.detectWindow }) :=
  if_pos ⟨hstate, Option.isSome_iff_ne_none.2 htimer⟩

theorem detectionWindowExpiry_ignored {s : State} {p : PortId}
    (h : ¬ ((s.port p).state = .detecting ∧ (s.port p).detector.timer ≠ none)) :
    exec (.detectionWindowExpiry p) s = .next s :=
  if_neg fun ⟨hstate, htimer⟩ => h ⟨hstate, Option.isSome_iff_ne_none.1 htimer⟩

/-- Settles O41: the quotient of R29, the integers' distance of R36, and the two cases of the expiry. -/
theorem rateArithmetic : Obligations.RateArithmetic := by
  refine ⟨fun r _ => ⟨(divisorOf_legal r).1, (divisorOf_legal r).2, divisorOf_nearest⟩,
    admissible_iff, fun s p => ⟨fun hstate htimer => ?_, detectionWindowExpiry_ignored⟩⟩
  rw [detectionWindowExpiry_reopens hstate htimer]
  rfl

end Sys2Proof.Machine
end

section
/-! PROOFS. One ring and one session on it: distances from the oldest position and back from the next mark
number turn the serial comparisons of R1 into those of natural numbers; a mark, a stored byte and an
emptying keep the ring sound and the session in it, and SEEK and the building of a frame place the session
in it. -/

namespace Sys2Proof.Machine

/-! ### Distances on a ring -/

/-- How far a mark number lies before the next one of the ring. -/
def Ring.back (r : Ring) (n : MarkNo) : Nat := (r.nextMark - n).toNat

/-- A position and a mark number with which an attached session stands in the ring. -/
abbrev Ring.seats (r : Ring) (c : Pos) (n : MarkNo) : Prop :=
  r.offset c ≤ r.fill ∧ r.back n ≤ r.marks.length ∧
  ∀ m ∈ r.marks, r.back m.number ≤ r.back n → r.offset c ≤ r.offset m.position

theorem Ring.offset_head {r : Ring} (h : r.fill ≤ 65536) : r.offset r.head = r.fill := by
  unfold Ring.offset Ring.oldest Ring.fill at *
  rw [show r.head - (r.head - BitVec.ofNat 32 r.held.length) = BitVec.ofNat 32 r.held.length by
    bv_omega, BitVec.toNat_ofNat]
  omega

theorem Ring.offset_oldest (r : Ring) : r.offset r.oldest = 0 := by
  simp [Ring.offset]

/-- Two positions lie as far apart as their offsets do. -/
theorem Ring.sub_toNat (r : Ring) {c d : Pos} (h : r.offset c ≤ r.offset d) :
    (d - c).toNat = r.offset d - r.offset c := by
  unfold Ring.offset at *
  bv_omega

/-- A position lies in the ring where it is no further from the head than the fill. -/
theorem Ring.sub_head_le_iff {r : Ring} (h : r.fill ≤ 65536) (c : Pos) :
    (r.head - c).toNat ≤ r.fill ↔ r.offset c ≤ r.fill := by
  have hh := r.offset_head h
  unfold Ring.offset at *
  bv_omega

theorem Ring.atOrBefore_iff {r : Ring} {c d : Pos} (hc : r.offset c ≤ 65536)
    (hd : r.offset d ≤ 65536) : atOrBefore c d = true ↔ r.offset c ≤ r.offset d := by
  unfold atOrBefore precedes Ring.offset at *
  simp only [Bool.or_eq_true, Bool.and_eq_true, beq_iff_eq, decide_eq_true_eq]
  bv_omega

theorem Ring.precedes_iff {r : Ring} {c d : Pos} (hc : r.offset c ≤ 65536)
    (hd : r.offset d ≤ 65536) : precedes c d = true ↔ r.offset c < r.offset d := by
  unfold precedes Ring.offset at *
  simp only [Bool.and_eq_true, decide_eq_true_eq]
  bv_omega

theorem Ring.markAtOrBefore_iff {r : Ring} {m n : MarkNo} (hm : r.back m ≤ 16) (hn : r.back n ≤ 16) :
    markAtOrBefore m n = true ↔ r.back n ≤ r.back m := by
  unfold markAtOrBefore markPrecedes Ring.back at *
  simp only [Bool.or_eq_true, Bool.and_eq_true, beq_iff_eq, decide_eq_true_eq]
  bv_omega

theorem Ring.markPrecedes_iff {r : Ring} {m n : MarkNo} (hm : r.back m ≤ 17) (hn : r.back n ≤ 17) :
    markPrecedes m n = true ↔ r.back n < r.back m := by
  unfold markPrecedes Ring.back at *
  simp only [Bool.and_eq_true, decide_eq_true_eq]
  bv_omega

/-! ### Numbered marks (R47) -/

/-- The marks are numbered one after another up to the number n, which is next. -/
abbrev Numbered (n : MarkNo) (ms : List Mark) : Prop :=
  ms.map (·.number) = (List.range ms.length).map fun i => n - BitVec.ofNat 16 (ms.length - i)

theorem numbered_cons (n : MarkNo) (m : Mark) (ms : List Mark) :
    Numbered n (m :: ms) ↔ m.number = n - BitVec.ofNat 16 (ms.length + 1) ∧ Numbered n ms := by
  simp [Numbered, List.range_succ_eq_map, Function.comp_def]

theorem Numbered.of_append {n : MarkNo} {xs ms : List Mark} (h : Numbered n (xs ++ ms)) :
    Numbered n ms := by
  induction xs with
  | nil => exact h
  | cons x xs ih => exact ih ((numbered_cons n x (xs ++ ms)).1 h).2

/-- A mark with the next number follows. -/
theorem Numbered.concat {n : MarkNo} {ms : List Mark} {m : Mark} (h : Numbered n ms) (hm : m.number = n) :
    Numbered (n + 1) (ms ++ [m]) := by
  induction ms with
  | nil => simp [Numbered, hm]
  | cons x ms ih =>
    obtain ⟨hx, hms⟩ := (numbered_cons n x ms).1 h
    refine (numbered_cons (n + 1) x (ms ++ [m])).2 ⟨?_, ih hms⟩
    rw [hx, List.length_append, List.length_singleton, BitVec.ofNat_add _ 1]
    generalize BitVec.ofNat 16 (ms.length + 1) = k
    bv_omega

theorem back_of_number {r : Ring} {m : Mark} {k : Nat} (hk : k ≤ 16)
    (h : m.number = r.nextMark - BitVec.ofNat 16 k) : r.back m.number = k := by
  have hn : (BitVec.ofNat 16 k).toNat = k := by rw [BitVec.toNat_ofNat]; omega
  unfold Ring.back
  rw [h]
  generalize BitVec.ofNat 16 k = b at *
  bv_omega

/-- Of numbered marks each lies back by its place from the end. -/
theorem Numbered.back_le {r : Ring} {ms : List Mark} (h : Numbered r.nextMark ms) (hlen : ms.length ≤ 16) :
    ∀ m ∈ ms, 1 ≤ r.back m.number ∧ r.back m.number ≤ ms.length := by
  induction ms with
  | nil => simp
  | cons x ms ih =>
    obtain ⟨hx, hms⟩ := (numbered_cons _ x ms).1 h
    have hback := back_of_number (by simpa using hlen) hx
    intro m hm
    rcases List.mem_cons.1 hm with rfl | hm
    · rw [hback, List.length_cons]; omega
    · have := ih hms (by simp at hlen; omega) m hm
      rw [List.length_cons]; omega

theorem Numbered.pairwise_back {r : Ring} {ms : List Mark} (h : Numbered r.nextMark ms)
    (hlen : ms.length ≤ 16) : ms.Pairwise fun m m' => r.back m'.number < r.back m.number := by
  induction ms with
  | nil => exact .nil
  | cons x ms ih =>
    obtain ⟨hx, hms⟩ := (numbered_cons _ x ms).1 h
    have hlen' : ms.length ≤ 16 := by simp at hlen; omega
    refine .cons (fun m hm => ?_) (ih hms hlen')
    rw [back_of_number (by simpa using hlen) hx]
    have := hms.back_le hlen' m hm
    omega

/-! ### Sound rings -/

section
variable {cap : Nat} {r : Ring}

theorem Ring.sound.fill_le (h : r.sound cap) (hcap : cap ≤ 65536) : r.fill ≤ 65536 :=
  Nat.le_trans h.1 hcap

theorem Ring.sound.marks_le (h : r.sound cap) : r.marks.length ≤ 16 := by
  obtain ⟨-, hlen, -⟩ := h
  exact hlen

theorem Ring.sound.numbered (h : r.sound cap) : Numbered r.nextMark r.marks := by
  obtain ⟨-, -, hnum, -⟩ := h
  exact hnum

theorem Ring.sound.offset_mark_le (h : r.sound cap) {m : Mark} (hm : m ∈ r.marks) :
    r.offset m.position ≤ r.fill := by
  obtain ⟨-, -, -, -, hin⟩ := h
  exact hin m hm

theorem Ring.sound.back_le (h : r.sound cap) {m : Mark} (hm : m ∈ r.marks) :
    1 ≤ r.back m.number ∧ r.back m.number ≤ r.marks.length :=
  h.numbered.back_le h.marks_le m hm

/-- A session stands in a sound ring as R46, R51 and R52 say exactly where the distances agree. -/
theorem inRing_iff_seats (h : r.sound cap) (hcap : cap ≤ 65536) (a : Attachment) :
    a.inRing r ↔ r.seats a.cursor a.nextMark := by
  refine and_congr (r.sub_head_le_iff (h.fill_le hcap) _) (and_congr_right fun hn => ?_)
  refine forall_congr' fun m => imp_congr_right fun hm => ?_
  rw [r.markAtOrBefore_iff (Nat.le_trans hn h.marks_le) (Nat.le_trans (h.back_le hm).2 h.marks_le)]

/-- From one mark of a sound ring to a later one the numbers rise and the positions do not fall. -/
theorem Ring.sound.pairwise (h : r.sound cap) : r.marks.Pairwise fun m m' =>
    r.back m'.number < r.back m.number ∧ r.offset m.position ≤ r.offset m'.position := by
  have hback := h.numbered.pairwise_back h.marks_le
  obtain ⟨-, -, -, hpos, -⟩ := h
  exact hback.and (List.pairwise_map.1 hpos)

/-- A mark no further back in number stands no further back in position. -/
theorem Ring.sound.offset_le (h : r.sound cap) {m m' : Mark} (hm : m ∈ r.marks) (hm' : m' ∈ r.marks)
    (hback : r.back m'.number ≤ r.back m.number) : r.offset m.position ≤ r.offset m'.position := by
  obtain ⟨i, hi, rfl⟩ := List.mem_iff_getElem.1 hm
  obtain ⟨j, hj, rfl⟩ := List.mem_iff_getElem.1 hm'
  have order := List.pairwise_iff_getElem.1 h.pairwise
  rcases Nat.lt_trichotomy i j with hij | rfl | hij
  · exact (order i j hi hj hij).2
  · exact Nat.le_refl _
  · have := (order j i hj hi hij).1; omega

/-- The reference number of R51 lies back by the length of the marks list. -/
theorem Ring.sound.back_reference (h : r.sound cap) : r.back r.reference = r.marks.length := by
  have hnum := h.numbered
  have hlen := h.marks_le
  unfold Ring.reference
  split
  next hm => simp [Ring.back, hm]
  next m ms hm =>
    rw [hm] at hnum hlen
    rw [back_of_number (by simpa using hlen) ((numbered_cons _ m ms).1 hnum).1, hm, List.length_cons]

/-- R51 moves a next-mark number up to the oldest listed mark, where it has fallen behind. -/
theorem Ring.sound.back_syncMarks (h : r.sound cap) {a : Attachment} (ha : r.back a.nextMark ≤ 17) :
    r.back (a.syncMarks r.reference).nextMark = min (r.back a.nextMark) r.marks.length := by
  have hlen := h.marks_le
  have href := h.back_reference
  have hp : markPrecedes a.nextMark r.reference = true ↔ r.marks.length < r.back a.nextMark := by
    rw [r.markPrecedes_iff ha (by omega), href]
  unfold Attachment.syncMarks
  split
  next hs => have := hp.1 hs; simp only [href]; omega
  next hs => have := mt hp.2 hs; omega

/-! ### Writing a mark (R49) -/

/-- The marks that a new mark leaves listed are the last 15 at most, and all where there are fewer. -/
theorem addMark_marks (r : Ring) (k : MarkKind) (w : Word16) (hlen : r.marks.length ≤ 16) :
    ∃ xs ms, r.marks = xs ++ ms ∧ ms.length ≤ 15 ∧ (r.marks.length < 16 → xs = []) ∧
      (r.addMark k w).marks = ms ++ [⟨r.nextMark, r.head, k, w⟩] := by
  unfold Ring.addMark Config.maxMarks
  by_cases hfull : 16 ≤ r.marks.length
  · refine ⟨r.marks.take 1, r.marks.drop 1, (List.take_append_drop 1 _).symm, ?_, ?_, by simp [hfull]⟩
    · rw [List.length_drop]; omega
    · omega
  · exact ⟨[], r.marks, rfl, by omega, fun _ => rfl, by simp [hfull]⟩

theorem addMark_sound (h : r.sound cap) (hcap : cap ≤ 65536) (k : MarkKind) (w : Word16) :
    (r.addMark k w).sound cap := by
  have hhead := r.offset_head (h.fill_le hcap)
  have hlen := h.marks_le
  obtain ⟨hfill, -, hnum, hpos, hin⟩ := h
  obtain ⟨xs, ms, hms, hlen', -, hnew⟩ := addMark_marks r k w hlen
  have hoff : ∀ c, (r.addMark k w).offset c = r.offset c := fun _ => rfl
  have hnum' : Numbered r.nextMark ms := .of_append (xs := xs) (by rw [← hms]; exact hnum)
  have hpos' : (ms.map fun m => r.offset m.position).Pairwise (· ≤ ·) := by
    rw [hms, List.map_append] at hpos; exact (List.pairwise_append.1 hpos).2.1
  have hin' : ∀ m ∈ ms, r.offset m.position ≤ r.fill := fun m hm =>
    hin m (by rw [hms]; exact List.mem_append_right xs hm)
  refine ⟨hfill, ?_, ?_, ?_, ?_⟩
  · rw [hnew, List.length_append, List.length_singleton]; exact Nat.succ_le_succ hlen'
  · rw [hnew]; exact hnum'.concat rfl
  · simp only [hnew, hoff, List.map_append, List.map_cons, List.map_nil, List.pairwise_append, hhead]
    simpa using ⟨hpos', hin'⟩
  · simp only [hnew, hoff, addMark_fill, List.mem_append, List.mem_singleton]
    rintro m (hm | rfl)
    · exact hin' m hm
    · exact Nat.le_of_eq hhead

/-- What a mark does to one session on the port: where a mark was dropped for it, R51. -/
def Attachment.marked (r : Ring) (k : MarkKind) (w : Word16) (a : Attachment) : Attachment :=
  if Config.maxMarks ≤ r.marks.length then a.syncMarks (r.addMark k w).reference else a

theorem marked_seats (h : r.sound cap) (hcap : cap ≤ 65536) {a : Attachment}
    (ha : r.seats a.cursor a.nextMark) (k : MarkKind) (w : Word16) :
    (r.addMark k w).seats (a.marked r k w).cursor (a.marked r k w).nextMark := by
  have hhead := r.offset_head (h.fill_le hcap)
  have hlen := h.marks_le
  have hs := addMark_sound h hcap k w
  obtain ⟨hc, hn, hm⟩ := ha
  obtain ⟨xs, ms, hms, hlen', hxs, hnew⟩ := addMark_marks r k w hlen
  have hback : ∀ n, r.back n ≤ 16 → (r.addMark k w).back n = r.back n + 1 := fun n hn => by
    have : (r.addMark k w).nextMark = r.nextMark + 1 := rfl
    unfold Ring.back at *
    rw [this]
    bv_omega
  have hcursor : (a.marked r k w).cursor = a.cursor := by unfold Attachment.marked; split <;> simp
  have hnext : (r.addMark k w).back (a.marked r k w).nextMark =
      min (r.back a.nextMark + 1) (r.addMark k w).marks.length := by
    have ha' := hback a.nextMark (Nat.le_trans hn hlen)
    unfold Attachment.marked Config.maxMarks
    split
    · rw [hs.back_syncMarks (by omega), ha']
    next hroom =>
      rw [ha', hnew, List.length_append, List.length_singleton]
      rw [hms, hxs (by omega), List.nil_append] at hn
      omega
  rw [hcursor]
  refine ⟨hc, by omega, fun m hm' hle => ?_⟩
  rw [hnew, List.mem_append, List.mem_singleton] at hm'
  rcases hm' with hm' | rfl
  · have hmem : m ∈ r.marks := by rw [hms]; exact List.mem_append_right xs hm'
    have := hback m.number (Nat.le_trans (h.back_le hmem).2 hlen)
    exact hm m hmem (by omega)
  · exact Nat.le_trans hc (Nat.le_of_eq hhead.symm)

/-! ### Storing a byte (R45, R46, R50) -/

/-- Of marks in order, those dropped from the front are all those before the bound. -/
theorem dropWhile_eq_filter {α : Type} {p : α → Bool} {xs : List α}
    (h : xs.Pairwise fun x y => p y = true → p x = true) : xs.dropWhile p = xs.filter (!p ·) := by
  induction xs with
  | nil => rfl
  | cons x xs ih =>
    obtain ⟨hx, hxs⟩ := List.pairwise_cons.1 h
    by_cases hp : p x = true
    · simp [hp, ih hxs]
    · have : ∀ y ∈ xs, p y = false := fun y hy => by simpa using mt (hx y hy) hp
      simpa [hp] using (List.filter_eq_self.2 fun y hy => by simp [this y hy]).symm

/-- A ring with room takes the byte at its head and keeps its oldest position. -/
theorem store_room {b : Byte} (hroom : r.held.length < cap) :
    (r.store cap b).marks = r.marks ∧ (r.store cap b).fill = r.fill + 1 ∧
      ∀ c, (r.store cap b).offset c = r.offset c := by
  have ho : (r.store cap b).oldest = r.oldest := by
    unfold Ring.store Ring.oldest
    simp only [hroom, if_true, List.length_append, List.length_singleton, BitVec.ofNat_add]
    generalize BitVec.ofNat 32 r.held.length = n
    bv_omega
  refine ⟨?_, ?_, fun c => by rw [Ring.offset, ho]; rfl⟩
  · unfold Ring.store; rw [if_pos hroom]
  · unfold Ring.store Ring.fill; simp [hroom]

/-- A full ring gives up its oldest byte: every offset falls by one, and the marks at the old oldest
position are dropped. -/
theorem store_full (h : r.sound cap) (hcap : cap ≤ 65536) {b : Byte} (hroom : ¬ r.held.length < cap) :
    (r.store cap b).fill = r.fill ∧ (r.store cap b).oldest = r.oldest + 1 ∧
      (∀ c, 1 ≤ r.offset c → (r.store cap b).offset c = r.offset c - 1) ∧
      ∃ xs, r.marks = xs ++ (r.store cap b).marks ∧
        ∀ m ∈ (r.store cap b).marks, 1 ≤ r.offset m.position := by
  have hf := h.fill_le hcap
  have ho : (r.store cap b).oldest = r.oldest + 1 := by
    unfold Ring.store Ring.oldest
    simp only [hroom, if_false, List.length_drop, List.length_append, List.length_singleton,
      Nat.add_sub_cancel]
    generalize BitVec.ofNat 32 r.held.length = n
    bv_omega
  have hnew : r.offset (r.oldest + 1) = 1 := by
    unfold Ring.offset
    bv_omega
  have hdrop : ∀ m ∈ r.marks, precedes m.position (r.oldest + 1) = true ↔ r.offset m.position = 0 := by
    intro m hm
    have := h.offset_mark_le hm
    rw [r.precedes_iff (by omega) (by omega), hnew]
    omega
  have hmarks : (r.store cap b).marks = r.marks.dropWhile fun m => precedes m.position (r.oldest + 1) := by
    unfold Ring.store; rw [if_neg hroom]
  refine ⟨?_, ho, fun c hc => ?_, ?_⟩
  · unfold Ring.store Ring.fill; simp [hroom]
  · rw [Ring.offset, ho]
    unfold Ring.offset at *
    bv_omega
  · refine ⟨_, hmarks ▸ (List.takeWhile_append_dropWhile).symm, fun m hm => ?_⟩
    rw [hmarks, dropWhile_eq_filter] at hm
    · obtain ⟨hmem, hm⟩ := List.mem_filter.1 hm
      have := mt (hdrop m hmem).2 (by simpa using hm)
      omega
    · refine h.pairwise.imp_of_mem fun {x y} hx hy hxy hp => ?_
      have := (hdrop y hy).1 hp
      exact (hdrop x hx).2 (by omega)

theorem store_sound (h : r.sound cap) (hcap : cap ≤ 65536) (b : Byte) : (r.store cap b).sound cap := by
  have hfull := store_full h hcap (b := b)
  obtain ⟨hfill, hlen, hnum, hpos, hin⟩ := h
  by_cases hroom : r.held.length < cap
  · obtain ⟨hm, hf, ho⟩ := store_room (b := b) hroom
    unfold Ring.sound
    rw [hm, hf, store_nextMark]
    exact ⟨hroom, hlen, hnum, by simpa only [ho] using hpos, fun m hm => by
      rw [ho]; exact Nat.le_succ_of_le (hin m hm)⟩
  · obtain ⟨hf, -, ho, xs, hm, hone⟩ := hfull hroom
    have hmem : ∀ m ∈ (r.store cap b).marks, m ∈ r.marks := fun m hm' => by
      rw [hm]; exact List.mem_append_right xs hm'
    refine ⟨by omega, ?_, ?_, ?_, fun m hm' => ?_⟩
    · rw [hm, List.length_append] at hlen; omega
    · rw [store_nextMark]; exact Numbered.of_append (xs := xs) (by rw [← hm]; exact hnum)
    · rw [hm, List.map_append, List.pairwise_append] at hpos
      refine List.pairwise_map.2 ((List.pairwise_map.1 hpos.2.1).imp_of_mem fun {x y} hx hy hxy => ?_)
      have := hone x hx; have := hone y hy
      rw [ho _ (hone x hx), ho _ (hone y hy)]; omega
    · have := hone m hm'
      have := hin m (hmem m hm')
      rw [ho _ (hone m hm')]; omega

/-- What a stored byte does to one session on the port (R46, R51). -/
def Attachment.passed (cap : Nat) (b : Byte) (r : Ring) (a : Attachment) : Attachment :=
  if r.held.length < cap then a
  else a.oldestAdvanced r.oldest (decide ((r.store cap b).marks.length < r.marks.length))
    (r.store cap b).reference

theorem oldestAdvanced_cursor (o : Pos) (c : Bool) (n : MarkNo) (a : Attachment) :
    (a.oldestAdvanced o c n).cursor = if a.cursor = o then o + 1 else a.cursor := by
  unfold Attachment.oldestAdvanced Attachment.overtaken
  split <;> split <;> simp_all

theorem overtaken_nextMark (o : Pos) (a : Attachment) : (a.overtaken o).nextMark = a.nextMark := by
  unfold Attachment.overtaken; split <;> rfl

theorem passed_seats (h : r.sound cap) (hcap : cap ≤ 65536) {a : Attachment}
    (ha : r.seats a.cursor a.nextMark) (b : Byte) :
    (r.store cap b).seats (a.passed cap b r).cursor (a.passed cap b r).nextMark := by
  have hs := store_sound h hcap b
  have hback : ∀ n, (r.store cap b).back n = r.back n := fun n => by
    rw [Ring.back, store_nextMark]; rfl
  obtain ⟨hc, hn, hm⟩ := ha
  unfold Attachment.passed Ring.seats
  by_cases hroom : r.held.length < cap
  · obtain ⟨hmarks, hf, ho⟩ := store_room (b := b) hroom
    simp only [hroom, if_true, hmarks, hf, ho, hback]
    exact ⟨by omega, hn, hm⟩
  · obtain ⟨hf, hold, ho, xs, hmarks, hone⟩ := store_full h hcap (b := b) hroom
    have hcursor : (r.store cap b).offset (if a.cursor = r.oldest then r.oldest + 1 else a.cursor) =
        r.offset a.cursor - 1 := by
      split
      next he => rw [← hold, Ring.offset_oldest, he, Ring.offset_oldest]
      next hne =>
        refine ho _ ?_
        unfold Ring.offset
        bv_omega
    have hnext : (r.store cap b).back (a.oldestAdvanced r.oldest
        (decide ((r.store cap b).marks.length < r.marks.length)) (r.store cap b).reference).nextMark =
        min (r.back a.nextMark) (r.store cap b).marks.length := by
      have hlen := h.marks_le
      unfold Attachment.oldestAdvanced
      split
      · rw [hs.back_syncMarks (by rw [hback, overtaken_nextMark]; omega), hback, overtaken_nextMark]
      next hkept =>
        rw [hback, overtaken_nextMark]
        simp only [decide_eq_true_eq] at hkept
        omega
    simp only [hroom, if_false, oldestAdvanced_cursor, hcursor, hnext, hf]
    refine ⟨by omega, by omega, fun m hm' hle => ?_⟩
    have := hm m (by rw [hmarks]; exact List.mem_append_right xs hm') (by rw [hback] at hle; omega)
    rw [ho _ (hone m hm')]
    omega

/-! ### Emptying a ring (R43, R54) -/

theorem sound_of_empty {head : Pos} {next : MarkNo} : Ring.sound cap ⟨head, [], [], next⟩ := by
  simp [Ring.sound, Ring.fill]

/-- What the emptying of a ring does to one session on the port (R43, R51). -/
abbrev Attachment.emptied (r : Ring) (a : Attachment) : Attachment :=
  (a.ringEmptied r.emptied.head).syncMarks r.emptied.reference

theorem emptied_seats (h : r.sound cap) {a : Attachment} (ha : r.seats a.cursor a.nextMark) :
    r.emptied.seats (a.emptied r).cursor (a.emptied r).nextMark := by
  have hlen := h.marks_le
  obtain ⟨-, hn, -⟩ := ha
  have hs : r.emptied.sound 0 := sound_of_empty
  have hnext : r.emptied.back (a.emptied r).nextMark = 0 := by
    have hlost : r.emptied.back (a.ringEmptied r.emptied.head).nextMark ≤ 17 :=
      Nat.le_succ_of_le (Nat.le_trans hn hlen)
    rw [Attachment.emptied, hs.back_syncMarks hlost]
    exact Nat.min_zero _
  refine ⟨?_, by rw [hnext]; exact Nat.zero_le _, fun m hm => absurd hm List.not_mem_nil⟩
  rw [Attachment.emptied, syncMarks_cursor]
  exact Nat.le_of_eq (Ring.offset_head (r := r.emptied) (Nat.zero_le _))

/-! ### Placing a cursor (R52, R68, R88) -/

/-- The cursor that a start or a SEEK target gives lies in the ring. -/
theorem placeCursor_offset_le (h : r.sound cap) (hcap : cap ≤ 65536) (t : Target) :
    r.offset (r.placeCursor t).1 ≤ r.fill := by
  have hf := h.fill_le hcap
  have hhead := r.offset_head hf
  have ho : r.offset r.oldest ≤ r.fill := by rw [Ring.offset_oldest]; exact Nat.zero_le _
  cases t with
  | oldest => exact ho
  | head => exact Nat.le_of_eq hhead
  | position p =>
    simp only [Ring.placeCursor]
    split
    next hp =>
      simp only [Ring.covers, atOrBefore, precedes, Bool.and_eq_true, Bool.or_eq_true, beq_iff_eq,
        decide_eq_true_eq] at hp
      unfold Ring.offset at *
      bv_omega
    · split
      · exact Nat.le_of_eq hhead
      · exact ho

/-- A cursor in the ring and the mark number that R52 finds for it are a place in the ring. -/
theorem search_seats (h : r.sound cap) (hcap : cap ≤ 65536) {c : Pos} (hc : r.offset c ≤ r.fill) :
    r.seats c (r.search c) := by
  have hf := h.fill_le hcap
  refine ⟨hc, ?_⟩
  unfold Ring.search
  split
  next m hm =>
    have hmem := List.mem_of_find?_eq_some hm
    have hle : r.offset c ≤ r.offset m.position := by
      have hmin := h.offset_mark_le hmem
      exact (r.atOrBefore_iff (by omega) (by omega)).1
        (List.find?_some (p := fun m : Mark => atOrBefore c m.position) hm)
    exact ⟨(h.back_le hmem).2, fun m' hm' hback => Nat.le_trans hle (h.offset_le hmem hm' hback)⟩
  next =>
    have hnext : r.back r.nextMark = 0 := by simp [Ring.back]
    refine ⟨by omega, fun m hm hback => ?_⟩
    have := (h.back_le hm).1
    omega

/-! ### Building a frame (R94, R96) -/

/-- The frame's provisional end lies in the ring, no nearer its start than the cursor. -/
theorem frameEnd_offset (h : r.sound cap) (hcap : cap ≤ 65536) {a : Attachment}
    (hc : r.offset a.cursor ≤ r.fill) :
    r.offset a.cursor ≤ r.offset (a.frameEnd r) ∧ r.offset (a.frameEnd r) ≤ r.fill := by
  have hf := h.fill_le hcap
  have hhead := r.offset_head hf
  have hdist := r.sub_toNat (c := a.cursor) (d := r.head) (by omega)
  have hbytes : a.frameBytes r ≤ r.fill - r.offset a.cursor := by
    unfold Attachment.frameBytes Attachment.sendable
    split <;> omega
  have hend : r.offset (a.frameEnd r) = r.offset a.cursor + a.frameBytes r := by
    have hn : (BitVec.ofNat 32 (a.frameBytes r)).toNat = a.frameBytes r := by
      rw [BitVec.toNat_ofNat]; omega
    unfold Attachment.frameEnd Ring.offset at *
    bv_omega
  omega

/-- The candidates are the listed marks from the next-mark number on that lie up to the provisional end. -/
theorem mem_candidates_iff (h : r.sound cap) (hcap : cap ≤ 65536) {a : Attachment}
    (ha : r.seats a.cursor a.nextMark) {m : Mark} :
    m ∈ a.candidates r ↔ m ∈ r.marks ∧ r.back m.number ≤ r.back a.nextMark ∧
      r.offset m.position ≤ r.offset (a.frameEnd r) := by
  obtain ⟨hc, hn, -⟩ := ha
  have hend := frameEnd_offset h hcap hc
  unfold Attachment.candidates
  rw [List.mem_filter, Bool.and_eq_true]
  refine and_congr_right fun hm => ?_
  have hpos := h.offset_mark_le hm
  have hf := h.fill_le hcap
  rw [r.markAtOrBefore_iff (Nat.le_trans hn h.marks_le) (Nat.le_trans (h.back_le hm).2 h.marks_le),
    r.atOrBefore_iff (by omega) (by omega)]

/-- A list in an order ends with what every other element stands before. -/
theorem getLast?_of_pairwise {α : Type} {R : α → α → Prop} {xs : List α} (h : xs.Pairwise R) {x : α}
    (hx : xs.getLast? = some x) : ∀ y ∈ xs, y = x ∨ R y x := by
  obtain ⟨ys, rfl⟩ := List.getLast?_eq_some_iff.1 hx
  intro y hy
  rcases List.mem_append.1 hy with hy | hy
  · exact .inr ((List.pairwise_append.1 h).2.2 y hy x (by simp))
  · exact .inl (by simpa using hy)

/-- The frame's end with the ninth candidate as the head of those left over. -/
theorem dataEnd_eq (a : Attachment) (r : Ring) : a.dataEnd r =
    match (a.candidates r).drop 8 with
    | m :: _ => m.position
    | [] => a.frameEnd r := by
  unfold Attachment.dataEnd
  rw [show (a.candidates r)[Config.perFrame]? = ((a.candidates r).drop 8).head? by
    rw [List.head?_drop]]
  cases (a.candidates r).drop 8 <;> rfl

/-- The building of a frame leaves the session in its ring: what the frame has not taken of the marks
stands at or after its end. -/
theorem advanced_seats (h : r.sound cap) (hcap : cap ≤ 65536) {a : Attachment}
    (ha : r.seats a.cursor a.nextMark) :
    r.seats (a.advanced r).cursor (a.advanced r).nextMark := by
  have hmem := fun m => mem_candidates_iff h hcap ha (m := m)
  obtain ⟨hc, hn, -⟩ := ha
  have hhi := (frameEnd_offset h hcap hc).2
  have hord : (a.candidates r).Pairwise fun m m' =>
      r.back m'.number < r.back m.number ∧ r.offset m.position ≤ r.offset m'.position :=
    h.pairwise.sublist List.filter_sublist
  have hsplit := List.take_append_drop 8 (a.candidates r)
  rw [← hsplit, List.pairwise_append] at hord
  obtain ⟨hsent, hleft, -⟩ := hord
  -- the frame ends within the provisional end, and no mark left over stands before it
  have hend : r.offset (a.dataEnd r) ≤ r.offset (a.frameEnd r) ∧
      ∀ m ∈ (a.candidates r).drop 8, r.offset (a.dataEnd r) ≤ r.offset m.position := by
    rw [dataEnd_eq]
    split
    next m ms hm =>
      rw [hm] at hleft
      have hin : m ∈ a.candidates r := List.mem_of_mem_drop (by rw [hm]; exact List.mem_cons_self)
      refine ⟨((hmem m).1 hin).2.2, fun m' hm' => ?_⟩
      rcases List.mem_cons.1 (hm ▸ hm') with rfl | hm'
      · exact Nat.le_refl _
      · exact ((List.pairwise_cons.1 hleft).1 m' hm').2
    next hm => exact ⟨Nat.le_refl _, by simp [hm]⟩
  -- the next-mark number passes the marks sent, and goes no further than one past the last
  have hnext : r.back (a.advanced r).nextMark ≤ r.back a.nextMark ∧
      ∀ m ∈ (a.candidates r).take 8, r.back (a.advanced r).nextMark < r.back m.number := by
    unfold Attachment.advanced Attachment.frameMarks Config.perFrame
    dsimp only
    split
    next x hx =>
      have hin : x ∈ a.candidates r := List.mem_of_mem_take (List.mem_of_getLast? hx)
      have hone := (h.back_le ((hmem x).1 hin).1).1
      have hle := ((hmem x).1 hin).2.1
      have hsucc : r.back (x.number + 1) = r.back x.number - 1 := by
        unfold Ring.back at *
        bv_omega
      refine ⟨by omega, fun m hm => ?_⟩
      rcases getLast?_of_pairwise hsent hx m hm with rfl | hm
      · omega
      · have := hm.1; omega
    next hx =>
      rw [List.getLast?_eq_none_iff] at hx
      exact ⟨Nat.le_refl _, by simp [hx]⟩
  refine ⟨Nat.le_trans hend.1 hhi, Nat.le_trans hnext.1 hn, fun m hm hback => ?_⟩
  by_cases hin : m ∈ a.candidates r
  · rw [← hsplit, List.mem_append] at hin
    rcases hin with hin | hin
    · have := hnext.2 m hin; omega
    · exact hend.2 m hin
  · have hbeyond := mt (hmem m).2 hin
    have := hend.1
    have := hnext.1
    have hle : r.back m.number ≤ r.back a.nextMark := by omega
    have : ¬ r.offset m.position ≤ r.offset (a.frameEnd r) := fun hp => hbeyond ⟨hm, hle, hp⟩
    exact Nat.le_trans hend.1 (by omega)

end
end Sys2Proof.Machine
end

section
/-! PROOFS. What every operation keeps of the capture store: of the rings it may not rewrite the head and the
bytes, of a sound store its soundness, and of sessions that stand in their rings that they do. Each rule
reads: what is kept up to a state is kept by one operation more. -/

namespace Sys2Proof.Machine

/-! ### The capture store as the state holds it -/

/-- What of a port belongs to the capture store. -/
abbrev Port.stored (q : Port) : Nat × Ring := (q.alloc, q.ring)

/-- Where an attached session stands. -/
abbrev Attachment.place (a : Attachment) : PortId × Pos × MarkNo := (a.port, a.cursor, a.nextMark)

def State.places (s : State) (k : SlotId) : Option (PortId × Pos × MarkNo) :=
  (s.session k).attachment.map (·.place)

/-- Every ring with its allocation, and the place of every attached session. -/
def State.capture (s : State) : (PortId → Nat × Ring) × (SlotId → Option (PortId × Pos × MarkNo)) :=
  (fun p => (s.port p).stored, s.places)

theorem capture_of_stored {s t : State} (hp : ∀ p, (t.port p).stored = (s.port p).stored)
    (hk : t.sessions = s.sessions) : t.capture = s.capture := by
  have places : t.places = s.places := by
    funext k
    simp only [State.places, State.session, hk]
  simp only [State.capture, hp, places]

theorem capture_of_places {s t : State} (hp : t.ports = s.ports) (hk : ∀ k, t.places k = s.places k) :
    t.capture = s.capture := by
  simp only [State.capture, State.port, hp, funext hk]

theorem places_mapAttached (s : State) (p : PortId) (f : Attachment → Attachment) (k : SlotId) :
    (s.mapAttached p f).places k =
      (s.session k).attachment.map fun a => (if a.port = p then f a else a).place := by
  simp [State.places, mapAttached_session, Function.comp_def]

theorem places_testContent (s : State) (p : PortId) (k : SlotId) :
    (s.testContent p).places k = s.places k := by
  have same : ∀ a : Attachment,
      (if a.port = p then a.gatherTest (s.port p).ring else a).place = a.place := fun a => by
    split
    · rw [gatherTest_eq]
    · rfl
  rw [State.testContent, places_mapAttached]
  simp only [same]; rfl

theorem writeMark_places (p : PortId) (kind : MarkKind) (arg : Word16) (s : State) (k : SlotId) :
    (writeMark p kind arg s).places k = (s.session k).attachment.map fun a =>
      (if a.port = p then a.marked (s.port p).ring kind arg else a).place := by
  unfold writeMark Attachment.marked
  rw [places_testContent]
  split
  · exact places_mapAttached _ _ _ _
  · simp only [ite_self]; rfl

theorem storeByte_places (p : PortId) (b : Byte) (s : State) (k : SlotId) :
    (storeByte p b s).places k = (s.session k).attachment.map fun a =>
      (if a.port = p then a.passed (s.port p).capacity b (s.port p).ring else a).place := by
  unfold storeByte Attachment.passed
  rw [places_testContent]
  split
  · simp only [ite_self]; rfl
  · exact places_mapAttached _ _ _ _

theorem emptyRing_eq (p : PortId) (n : Nat) (s : State) :
    emptyRing p n s = ((s.modPort p fun q => { q with
      alloc := n, ring := (s.port p).ring.emptied }).mapAttached p (·.emptied (s.port p).ring)).testContent p := by
  exact congrArg (State.testContent p)
    (mapAttached_twice _ p (·.ringEmptied _) (·.syncMarks _) fun _ => rfl)

theorem emptyRing_places (p : PortId) (n : Nat) (s : State) (k : SlotId) :
    (emptyRing p n s).places k = (s.session k).attachment.map fun a =>
      (if a.port = p then a.emptied (s.port p).ring else a).place := by
  rw [emptyRing_eq, places_testContent]
  exact places_mapAttached _ _ _ _

theorem emptyRing_port (p : PortId) (n : Nat) (s : State) (j : PortId) :
    (emptyRing p n s).port j =
      if j = p then { s.port p with alloc := n, ring := (s.port p).ring.emptied } else s.port j := by
  rw [emptyRing_eq]
  exact port_modPort s p j fun q => { q with alloc := n, ring := (s.port p).ring.emptied }

theorem storeByte_port (p : PortId) (b : Byte) (s : State) (j : PortId) :
    (storeByte p b s).port j =
      if j = p then { s.port p with ring := (s.port p).ring.store (s.port p).capacity b } else s.port j := by
  obtain ⟨f, -, h⟩ := storeByte_eq p b s
  rw [h]
  exact port_modPort s p j fun q => { q with ring := (s.port p).ring.store (s.port p).capacity b }

/-! ### Updates that leave a port's ring, and the end of an attachment -/

theorem startQueued_stored (q : Port) : q.startQueued.stored = q.stored := by
  unfold Port.startQueued; split
  · rfl
  · split <;> rfl

theorem switchSense_stored (old : AuxB) (enabling : Bool) (q : Port) :
    (q.switchSense old enabling).stored = q.stored := by
  unfold Port.switchSense; repeat' split
  all_goals rfl

theorem detached_attachment (x : Session) : x.detached.attachment = none := by
  cases x with
  | mk g l => cases l <;> rfl

/-! ### What is kept -/

theorem capacity_le {q : Port} (h : q.alloc ≤ 64) : q.capacity ≤ 65536 := by
  unfold Port.capacity Config.blockBytes
  omega

/-- From s to t, of the ports that w does not name the head and the bytes of the ring stay; a sound store
stays sound; and sessions that stand in their rings still do. -/
structure KeepsCapture (w : PortId → Bool) (s t : State) : Prop where
  bytes : ∀ p, w p = false →
    (t.port p).ring.head = (s.port p).ring.head ∧ (t.port p).ring.held = (s.port p).ring.held
  store : s.storeSound → t.storeSound
  delivery : s.deliverySound → t.deliverySound

/-- Every attached session stands in its ring, in the terms of `State.places`. -/
theorem inRing_iff_places (s : State) :
    (∀ k : SlotId, ∀ a ∈ (s.session k).attachment, a.inRing (s.port a.port).ring) ↔
      ∀ k, ∀ x ∈ s.places k, ∀ a : Attachment, a.place = x → a.inRing (s.port x.1).ring := by
  constructor
  · intro h k x hx a ha
    obtain ⟨b, hb, rfl⟩ := Option.mem_map.1 hx
    have := h k b hb
    simp only [Attachment.place, Prod.mk.injEq] at ha
    obtain ⟨hp, hc, hn⟩ := ha
    simpa only [Attachment.inRing, hc, hn] using this
  · intro h k a ha
    exact h k a.place (Option.mem_map_of_mem _ ha) a rfl

namespace KeepsCapture
variable {w : PortId → Bool} {s t u : State}

protected theorem refl (s : State) : KeepsCapture w s s := ⟨fun _ _ => ⟨rfl, rfl⟩, id, id⟩

protected theorem trans (h : KeepsCapture w s t) (g : KeepsCapture w t u) : KeepsCapture w s u where
  bytes p hp := by
    rw [(g.bytes p hp).1, (g.bytes p hp).2]; exact h.bytes p hp
  store := g.store ∘ h.store
  delivery := g.delivery ∘ h.delivery

/-- A change of anything else keeps the capture store. -/
theorem of_capture (e : t.capture = s.capture) : KeepsCapture w s t := by
  simp only [State.capture, Prod.mk.injEq, funext_iff] at e
  obtain ⟨hports, hplaces⟩ := e
  have hport : ∀ p, (t.port p).alloc = (s.port p).alloc ∧ (t.port p).ring = (s.port p).ring := hports
  have hstore : s.storeSound → t.storeSound := fun hs p => by
    unfold Port.capacity
    rw [(hport p).1, (hport p).2]; exact hs p
  refine ⟨fun p _ => by rw [(hport p).2]; exact ⟨rfl, rfl⟩, hstore, fun ⟨hs, hk⟩ => ⟨hstore hs, ?_⟩⟩
  rw [inRing_iff_places] at hk ⊢
  simpa only [hplaces, (hport _).2] using hk

theorem same (h : KeepsCapture w s t) (e : u.capture = t.capture) : KeepsCapture w s u :=
  h.trans (of_capture e)

/-- The rule for what moves one ring, and with it the sessions on its port. -/
theorem of_ring {p : PortId} {f : Attachment → Attachment}
    (hne : ∀ j, j ≠ p → t.port j = s.port j)
    (hplaces : ∀ k, t.places k =
      (s.session k).attachment.map fun a => (if a.port = p then f a else a).place)
    (hf : ∀ a, (f a).port = a.port)
    (hbytes : w p = false →
      (t.port p).ring.head = (s.port p).ring.head ∧ (t.port p).ring.held = (s.port p).ring.held)
    (hstore : (s.port p).capacity ≤ 65536 → (s.port p).ring.sound (s.port p).capacity →
      (t.port p).ring.sound (t.port p).capacity)
    (halloc : (s.port p).alloc ≤ 64 → (t.port p).alloc ≤ 64)
    (hseats : (s.port p).capacity ≤ 65536 → (s.port p).ring.sound (s.port p).capacity →
      ∀ a : Attachment, (s.port p).ring.seats a.cursor a.nextMark →
        (t.port p).ring.seats (f a).cursor (f a).nextMark) :
    KeepsCapture w s t := by
  have keep : s.storeSound → t.storeSound := fun hs j => by
    by_cases hj : j = p
    · subst hj
      exact ⟨halloc (hs j).1, hstore (capacity_le (hs j).1) (hs j).2⟩
    · rw [hne j hj]; exact hs j
  refine ⟨fun j hj => ?_, keep, fun ⟨hs, hk⟩ => ⟨keep hs, ?_⟩⟩
  · by_cases hjp : j = p
    · subst hjp; exact hbytes hj
    · rw [hne j hjp]; exact ⟨rfl, rfl⟩
  · intro k a' ha'
    have hx : a'.place ∈ t.places k := Option.mem_map_of_mem _ ha'
    rw [hplaces] at hx
    obtain ⟨a, ha, hplace⟩ := Option.mem_map.1 hx
    simp only [Attachment.place, Prod.mk.injEq] at hplace
    obtain ⟨hport, hcursor, hnext⟩ := hplace
    have hin := hk k a ha
    by_cases hp : a.port = p
    · rw [if_pos hp] at hport hcursor hnext
      have ht : a'.port = p := by rw [← hport, hf, hp]
      obtain ⟨hal, hso⟩ := hs p
      rw [ht, inRing_iff_seats (keep hs p).2 (capacity_le (keep hs p).1), ← hcursor, ← hnext]
      rw [hp, inRing_iff_seats hso (capacity_le hal)] at hin
      exact hseats (capacity_le hal) hso a hin
    · rw [if_neg hp] at hport hcursor hnext
      rw [← hport, hne _ hp]
      simpa only [Attachment.inRing, hcursor, hnext] using hin

/-! ### The three operations on a ring -/

protected theorem writeMark (h : KeepsCapture w s t) {p : PortId} {kind : MarkKind} {arg : Word16} :
    KeepsCapture w s (writeMark p kind arg t) := by
  refine h.trans (of_ring (p := p) (f := (·.marked (t.port p).ring kind arg))
    (fun j hj => by simp [hj]) (writeMark_places p kind arg t) (fun a => ?_) (fun _ => by simp)
    (fun hcap hs => ?_) (fun ha => by simpa using ha) (fun hcap hs a ha => ?_))
  · unfold Attachment.marked; split <;> simp
  · rw [writeMark_port_same]; exact addMark_sound hs hcap kind arg
  · rw [writeMark_port_same]; exact marked_seats hs hcap ha kind arg

protected theorem storeByte (h : KeepsCapture w s t) {p : PortId} (hw : w p = true) {b : Byte} :
    KeepsCapture w s (storeByte p b t) := by
  have hp := (storeByte_port p b t p).trans (if_pos rfl)
  refine h.trans (of_ring (p := p) (f := (·.passed (t.port p).capacity b (t.port p).ring))
    (fun j hj => by simp [storeByte_port, hj]) (storeByte_places p b t) (fun a => ?_)
    (fun hf => by simp [hw] at hf)
    (fun hcap hs => ?_) (fun ha => by rw [hp]; exact ha) (fun hcap hs a ha => ?_))
  · unfold Attachment.passed Attachment.oldestAdvanced Attachment.overtaken
    repeat' split
    all_goals simp
  · rw [hp]; exact store_sound hs hcap b
  · rw [hp]; exact passed_seats hs hcap ha b

protected theorem emptyRing (h : KeepsCapture w s t) {p : PortId} (hw : w p = true) {n : Nat}
    (hn : n ≤ 64) : KeepsCapture w s (emptyRing p n t) := by
  have hp := (emptyRing_port p n t p).trans (if_pos rfl)
  refine h.trans (of_ring (p := p) (f := (·.emptied (t.port p).ring))
    (fun j hj => by simp [emptyRing_port, hj]) (emptyRing_places p n t) (fun a => ?_)
    (fun hf => by simp [hw] at hf)
    (fun hcap hs => ?_) (fun _ => by rw [hp]; exact hn) (fun hcap hs a ha => ?_))
  · exact syncMarks_port _ _
  · rw [hp]; exact sound_of_empty
  · rw [hp]; exact emptied_seats hs ha

/-! ### Updates of one row -/

protected theorem ite {c : Prop} [Decidable c] (ht : KeepsCapture w s t) (hu : KeepsCapture w s u) :
    KeepsCapture w s (if c then t else u) := by
  split
  · exact ht
  · exact hu

protected theorem forEach {α : Type} {xs : List α} {f : α → State → State} (h : KeepsCapture w s t)
    (hf : ∀ x u, KeepsCapture w s u → KeepsCapture w s (f x u)) : KeepsCapture w s (forEach xs f t) :=
  forEach_keeps (KeepsCapture w s) (fun x _ u => hf x u) h

protected theorem modPort (h : KeepsCapture w s t) {p : PortId} {f : Port → Port}
    (hf : ∀ q, (f q).stored = q.stored := by exact fun _ => rfl) : KeepsCapture w s (t.modPort p f) :=
  h.same (capture_of_stored (fun j => by
    rw [port_modPort]; split
    next hj => rw [hf, hj]
    · rfl) rfl)

/-- A session's record may change in any way that leaves the session, where it is attached, in its ring. -/
protected theorem modSession (h : KeepsCapture w s t) {k : SlotId} {f : Session → Session}
    (hf : t.deliverySound → ∀ a ∈ (f (t.session k)).attachment, a.inRing (t.port a.port).ring) :
    KeepsCapture w s (t.modSession k f) := by
  refine h.trans ⟨fun _ _ => ⟨rfl, rfl⟩, id, fun ht => ⟨ht.1, fun j a ha => ?_⟩⟩
  rw [session_modSession] at ha
  split at ha
  · exact hf ht a ha
  · exact ht.2 j a ha

protected theorem modAttachment (h : KeepsCapture w s t) {k : SlotId} {f : Attachment → Attachment}
    (hf : ∀ a, (f a).place = a.place := by exact fun _ => rfl) : KeepsCapture w s (t.modAttachment k f) :=
  h.same (capture_of_places rfl fun j => by
    unfold State.places
    rw [modAttachment_session]
    split
    · simp [Function.comp_def, hf]
    · rfl)

protected theorem settle (h : KeepsCapture w s t) : KeepsCapture w s (settle t) :=
  h.same (capture_of_places rfl fun k => by
    have same : ∀ a : Attachment, (a.gatherTest (t.port a.port).ring).place = a.place := fun a => by
      rw [gatherTest_eq]
    simp [State.places, State.session, Machine.settle, Fin.getElem_fin, Function.comp_def, same])

protected theorem modPattern (h : KeepsCapture w s t) {i : PatternId} {f : PatternEntry → PatternEntry} :
    KeepsCapture w s (t.modPattern i f) := h.same rfl
protected theorem modComparator (h : KeepsCapture w s t) {i : ComparatorId} {f : Comparator → Comparator} :
    KeepsCapture w s (t.modComparator i f) := h.same rfl
protected theorem modKeyin (h : KeepsCapture w s t) {e : KeyinId} {f : KeyinEntry → KeyinEntry} :
    KeepsCapture w s (t.modKeyin e f) := h.same rfl
protected theorem countUplink (h : KeepsCapture w s t) {f : UplinkCounters → UplinkCounters} :
    KeepsCapture w s (t.countUplink f) := h.same rfl
protected theorem clearWindows (h : KeepsCapture w s t) {p : PortId} :
    KeepsCapture w s (clearWindows p t) := h.same rfl
protected theorem pushByte (h : KeepsCapture w s t) {p : PortId} {b : Byte} :
    KeepsCapture w s (t.pushByte p b) := h.same rfl
protected theorem evaluateAll (h : KeepsCapture w s t) {p : PortId} {ev : CounterEvent} :
    KeepsCapture w s (t.evaluateAll p ev) := h.same rfl
protected theorem makePending (h : KeepsCapture w s t) {e : KeyinId} :
    KeepsCapture w s (makePending e t) := h.same rfl
protected theorem reply (h : KeepsCapture w s t) {c : Ctx} {r : Result} {vs : List Byte} :
    KeepsCapture w s (reply c r vs t) := h.same rfl
protected theorem removeFrame (h : KeepsCapture w s t) : KeepsCapture w s (removeFrame t) := h.same rfl
protected theorem sendFrame (h : KeepsCapture w s t) {m : Mac} {d : List Byte} :
    KeepsCapture w s (sendFrame m d t) := h.same rfl

protected theorem raise (h : KeepsCapture w s t) {c : Cause} {p : Option PortId} {arg : Word16} :
    KeepsCapture w s (raise c p arg t) :=
  h.same (capture_of_stored (fun j => by simp) (by simp))

/-! ### The transmitter and the key-in unit -/

protected theorem startKeyinItem (h : KeepsCapture w s t) {p : PortId} {e : KeyinId} :
    KeepsCapture w s (startKeyinItem p e t) := by
  unfold startKeyinItem; split
  · exact h
  · exact h.modKeyin.modPort

protected theorem txChoice (h : KeepsCapture w s t) {p : PortId} : KeepsCapture w s (txChoice p t) := by
  unfold txChoice; split
  · exact h
  · split
    · exact h.startKeyinItem
    · exact h.modPort startQueued_stored

protected theorem startEntry (h : KeepsCapture w s t) {e : KeyinId} : KeepsCapture w s (startEntry e t) :=
  h.modKeyin.writeMark.txChoice

protected theorem startStep (h : KeepsCapture w s t) {p : PortId} : KeepsCapture w s (startStep p t) := by
  unfold startStep; split
  · exact h
  · split
    · exact h.startEntry
    · exact h

protected theorem report (h : KeepsCapture w s t) {held : Option PortId} {r : Report} :
    KeepsCapture w s (report held r t) :=
  (h.forEach fun _ _ hu => hu.makePending).forEach fun _ _ hu => hu.startStep

protected theorem keyinAction (h : KeepsCapture w s t) {e : KeyinId} :
    KeepsCapture w s (keyinAction e t) :=
  .ite h.makePending.startStep h

protected theorem endRecord (h : KeepsCapture w s t) {e : KeyinId} {o : Outcome} :
    KeepsCapture w s (endRecord e o t) := by
  unfold endRecord
  exact h.writeMark.raise.modKeyin

protected theorem endHeld (h : KeepsCapture w s t) {e : KeyinId} {o : Outcome} :
    KeepsCapture w s (endHeld e o t) :=
  h.endRecord.report.modKeyin

protected theorem endEntry (h : KeepsCapture w s t) {e : KeyinId} {o : Outcome} :
    KeepsCapture w s (endEntry e o t) :=
  .ite h.endHeld.startStep.txChoice h.endHeld

protected theorem stopEntry (h : KeepsCapture w s t) {e : KeyinId} {o : Outcome} :
    KeepsCapture w s (stopEntry e o t) := by
  unfold stopEntry; split
  · exact h
  · exact .ite h (.ite h.modKeyin h.endEntry)

protected theorem abortAll (h : KeepsCapture w s t) {p : PortId} : KeepsCapture w s (abortAll p t) :=
  h.forEach fun _ _ hu => hu.endHeld

protected theorem cycleEnd (h : KeepsCapture w s t) {e : KeyinId} : KeepsCapture w s (cycleEnd e t) := by
  unfold cycleEnd; split
  · exact h
  · exact .ite h.modKeyin.endEntry h.modKeyin.modKeyin

protected theorem itemEnd (h : KeepsCapture w s t) {p : PortId} : KeepsCapture w s (itemEnd p t) := by
  unfold itemEnd; split
  · exact h
  · split
    · exact h
    · refine .ite ?_ h
      dsimp only; split
      · exact h.modKeyin.endEntry
      · exact .ite h.modKeyin.cycleEnd h.modKeyin

protected theorem noteByte (h : KeepsCapture w s t) {p : PortId} : KeepsCapture w s (noteByte p t) := by
  unfold noteByte; split
  · exact h.modKeyin
  · exact h

/-! ### The line engine -/

protected theorem startPulse (h : KeepsCapture w s t) {p : PortId} : KeepsCapture w s (startPulse p t) :=
  h.modPort.writeMark

protected theorem cutPulse (h : KeepsCapture w s t) {p : PortId} : KeepsCapture w s (cutPulse p t) :=
  .ite h.modPort.writeMark h

protected theorem enterSwitching (h : KeepsCapture w s t) {p : PortId} {old : Profile} {arg : Word16} :
    KeepsCapture w s (enterSwitching p old arg t) :=
  have hw := h.modPort.clearWindows
  ((KeepsCapture.ite hw hw.cutPulse).modPort (switchSense_stored _ _)).writeMark

protected theorem enterLiveWith (h : KeepsCapture w s t) {p : PortId} {n : Nat} :
    KeepsCapture w s (enterLiveWith p n t) :=
  h.modPort.writeMark.raise.report.txChoice

protected theorem endSwitching (h : KeepsCapture w s t) {p : PortId} :
    KeepsCapture w s (endSwitching p t) := by
  unfold endSwitching; split
  · exact h.modPort.txChoice
  · exact h.enterLiveWith

protected theorem settleSwitching (h : KeepsCapture w s t) {p : PortId} :
    KeepsCapture w s (settleSwitching p t) :=
  .ite h.endSwitching h

protected theorem profileSwitch (h : KeepsCapture w s t) {p : PortId} {old : Profile} {arg : Word16} :
    KeepsCapture w s (profileSwitch p old arg t) :=
  (KeepsCapture.ite h.enterSwitching.startStep h.enterSwitching).settleSwitching

protected theorem disablePort (h : KeepsCapture w s t) {p : PortId} {arg : Word16} :
    KeepsCapture w s (disablePort p arg t) :=
  h.modPort.clearWindows.cutPulse.modPort.writeMark.abortAll

protected theorem applyActive (h : KeepsCapture w s t) {p : PortId} {f : Profile} {arg : Word16} :
    KeepsCapture w s (applyActive p f arg t) :=
  .ite h (.ite h.modPort.profileSwitch (.ite h.modPort h.modPort.disablePort))

protected theorem restartPort (h : KeepsCapture w s t) {p : PortId} : KeepsCapture w s (restartPort p t) :=
  .ite h.modPort.clearWindows
    h.modPort.cutPulse.abortAll.clearWindows.enterSwitching.startStep.settleSwitching

/-! ### Actions, counters and matches -/

protected theorem releaseHold (h : KeepsCapture w s t) {p : PortId} : KeepsCapture w s (releaseHold p t) :=
  h.modPort.txChoice

protected theorem performAction (h : KeepsCapture w s t) {a : Action} {p : PortId} :
    KeepsCapture w s (performAction a p t) := by
  cases a with
  | none => exact h
  | hold =>
    simp only [performAction, holdAction]
    exact h.modPort
  | release => exact h.releaseHold
  | pulse =>
    simp only [performAction, pulseAction]; split
    · exact h
    · exact h.startPulse
  | stage =>
    simp only [performAction, stageAction]; split
    · exact h
    · exact .ite h h.modPort.applyActive
  | keyin e => exact h.keyinAction
  | stopKeyin =>
    simp only [performAction, stopKeyinAction]; split
    · exact h.stopEntry
    · exact h

protected theorem fireComparator (h : KeepsCapture w s t) {i : ComparatorId} :
    KeepsCapture w s (fireComparator i t) :=
  h.raise.performAction.report

protected theorem counterEvent (h : KeepsCapture w s t) {p : PortId} {ev : CounterEvent} :
    KeepsCapture w s (counterEvent p ev t) :=
  h.modPort.evaluateAll.forEach fun _ _ hu => hu.fireComparator

protected theorem stopByMatch (h : KeepsCapture w s t) {p : PortId} {i : PatternId} :
    KeepsCapture w s (stopByMatch p i t) := by
  unfold stopByMatch; split
  · exact h.stopEntry
  · exact h

protected theorem reportMatch (h : KeepsCapture w s t) {b : Bool} {p : PortId} {i : PatternId} :
    KeepsCapture w s (reportMatch b p i t) :=
  .ite h.stopByMatch.report h.report.stopByMatch

protected theorem handleMatch (h : KeepsCapture w s t) {b : Bool} {p : PortId} {i : PatternId} :
    KeepsCapture w s (handleMatch b p i t) := by
  unfold handleMatch; split
  · exact h
  · exact .counterEvent <| .reportMatch <| .performAction <| .raise <|
      .ite h.modPattern.writeMark h.modPattern

protected theorem runJob (h : KeepsCapture w s t) {b : Bool} {p : PortId} {j : ByteJob} :
    KeepsCapture w s (runJob b p j t) := by
  cases j with
  | watch => exact h
  | handle i => exact h.handleMatch
  | count ev => exact h.counterEvent

/-! ### The events of a console line -/

protected theorem storeCharacter (h : KeepsCapture w s t) {p : PortId} (hw : w p = true) {data : Byte}
    {parity : Bool} {order : StoreOrder} : KeepsCapture w s (storeCharacter p data parity order t) :=
  (((h.modPort.storeByte hw).noteByte.forEach fun _ _ hu => hu.runJob).pushByte.forEach
    fun _ _ hu => hu.runJob)

protected theorem recordBreak (h : KeepsCapture w s t) {p : PortId} : KeepsCapture w s (recordBreak p t) :=
  h.modPort.writeMark.counterEvent.raise.clearWindows

protected theorem abortDead (h : KeepsCapture w s t) {p : PortId} {was : Option KeyinId} :
    KeepsCapture w s (abortDead p was t) := by
  unfold abortDead; split
  · exact .ite h.endEntry h
  · exact h

protected theorem enterDead (h : KeepsCapture w s t) {p : PortId} : KeepsCapture w s (enterDead p t) :=
  h.modPort.clearWindows.writeMark.counterEvent.raise.abortDead

protected theorem deadFromLive (h : KeepsCapture w s t) {p : PortId} :
    KeepsCapture w s (deadFromLive p t) :=
  have hb : KeepsCapture w s (if (t.port p).breakSeen then t else recordBreak p t) := .ite h h.recordBreak
  .ite hb.enterDead hb

protected theorem leaveDead (h : KeepsCapture w s t) {p : PortId} : KeepsCapture w s (leaveDead p t) := by
  have hl := (h.modPort (p := p) (f := fun q => if q.redetects then q.enterDetecting
    else { q with state := .live, breakSeen := false, qualTimer := none })
    fun q => by split <;> rfl).writeMark (p := p) (kind := .live) (arg := 0)
  exact (KeepsCapture.ite hl.raise hl.raise.report).startStep.txChoice

protected theorem evaluateRun (h : KeepsCapture w s t) {p : PortId} {m : Nat} :
    KeepsCapture w s (evaluateRun p m t) := by
  unfold evaluateRun; dsimp only; split
  · exact h.modPort.enterLiveWith
  · exact h.raise.modPort

protected theorem acceptEdge (h : KeepsCapture w s t) {p : PortId} {edge : Nat} {mark : Bool} :
    KeepsCapture w s (acceptEdge p edge mark t) := by
  unfold acceptEdge; dsimp only; split
  · exact .ite h.modPort.evaluateRun h.modPort
  · exact h.modPort

protected theorem freeTransmitter (h : KeepsCapture w s t) {p : PortId} :
    KeepsCapture w s (freeTransmitter p t) :=
  h.modPort.txChoice

protected theorem finishByte (h : KeepsCapture w s t) {p : PortId} {b : Bool} :
    KeepsCapture w s (finishByte p b t) :=
  (KeepsCapture.ite h.itemEnd.counterEvent h.counterEvent.itemEnd).freeTransmitter

protected theorem endPulse (h : KeepsCapture w s t) {p : PortId} : KeepsCapture w s (endPulse p t) :=
  h.modPort.writeMark.raise.report

protected theorem takeSample (h : KeepsCapture w s t) {p : PortId} {high : Bool} :
    KeepsCapture w s (takeSample p high t) :=
  .ite (.ite h.modPort.writeMark.raise.report h.modPort.writeMark.raise) h.modPort

protected theorem intervalExpiry (h : KeepsCapture w s t) {e : KeyinId} :
    KeepsCapture w s (intervalExpiry e t) := by
  unfold intervalExpiry; split
  · exact h
  · exact .ite h.modKeyin.txChoice h

/-! ### Sessions -/

protected theorem setWaitPlace (h : KeepsCapture w s t) {k : SlotId} :
    KeepsCapture w s (setWaitPlace k t) := h.modAttachment

protected theorem writerChange (h : KeepsCapture w s t) {p : PortId} {old new : Option SlotId} :
    KeepsCapture w s (writerChange p old new t) := by
  cases old <;> cases new
  · exact h.modPort.writeMark.raise
  · exact h.modPort.modAttachment.writeMark.raise
  · exact h.modPort.modAttachment.writeMark.raise
  · exact h.modPort.modAttachment.modAttachment.writeMark.raise

protected theorem leaveWaitList (h : KeepsCapture w s t) {p : PortId} {k : SlotId} :
    KeepsCapture w s (leaveWaitList p k t) :=
  .ite (h.modPort.forEach fun _ _ hu => hu.setWaitPlace) h

protected theorem releaseWriter (h : KeepsCapture w s t) {p : PortId} :
    KeepsCapture w s (releaseWriter p t) := by
  unfold releaseWriter; dsimp only; split
  · exact h.leaveWaitList.writerChange
  · exact h.writerChange

protected theorem joinWaitList (h : KeepsCapture w s t) {p : PortId} {k : SlotId} :
    KeepsCapture w s (joinWaitList p k t) :=
  h.modPort.forEach fun _ _ hu => hu.setWaitPlace

protected theorem preempt (h : KeepsCapture w s t) {p : PortId} {old k : SlotId} :
    KeepsCapture w s (preempt p old k t) :=
  h.writerChange.modAttachment

protected theorem leavePort (h : KeepsCapture w s t) {k : SlotId} : KeepsCapture w s (leavePort k t) := by
  unfold leavePort; split
  · exact h
  · exact (KeepsCapture.ite h.releaseWriter h).leaveWaitList

protected theorem detachSession (h : KeepsCapture w s t) {k : SlotId} :
    KeepsCapture w s (detachSession k t) := by
  unfold detachSession
  exact h.leavePort.modSession fun _ a ha => by simp [detached_attachment] at ha

protected theorem closeSession (h : KeepsCapture w s t) {k : SlotId} :
    KeepsCapture w s (closeSession k t) := by
  unfold closeSession
  exact h.leavePort.modSession fun _ a ha => by simp [Session.attachment] at ha

protected theorem contend (h : KeepsCapture w s t) {k : SlotId} {a : AttachPlan} :
    KeepsCapture w s (contend k a t).1 := by
  unfold contend; split
  · dsimp only; exact h.writerChange
  · split
    · dsimp only; exact h.preempt
    · split
      · split
        · dsimp only; exact h.joinWaitList
        · exact h
      · exact h

/-! ### Writes of tables and settings -/

protected theorem applyStation (h : KeepsCapture w s t) {e : StationId} {x : Station} :
    KeepsCapture w s (applyStation e x t) :=
  (h.forEach fun _ _ hu => hu.closeSession).same rfl

protected theorem applyComparator (h : KeepsCapture w s t) {i : ComparatorId} {c : Comparator} :
    KeepsCapture w s (applyComparator i c t) :=
  .ite (.ite h.modComparator.fireComparator h.modComparator) h.modComparator

protected theorem applyVector (h : KeepsCapture w s t) (hw : ∀ p, w p = true) {blocks : List Nat}
    (hblocks : ∀ b ∈ blocks, b ≤ 64) : KeepsCapture w s (applyVector blocks t) :=
  h.forEach fun p _ hu => .ite hu (hu.emptyRing (hw p) (by
    rw [List.getD_eq_getElem?_getD]
    cases hb : blocks[p.val]? with
    | none => exact Nat.zero_le _
    | some b => exact hblocks b (List.mem_of_getElem? hb)))

end KeepsCapture
end Sys2Proof.Machine
end

section
/-! PROOFS. A warm restart detaches every session before it zeroes the rings, and a start, a SEEK and the
building of a frame place a session in its ring; with these the settings, start-up and the two restarts
keep the capture store. -/

namespace Sys2Proof.Machine

/-! ### The attached sessions through a warm restart -/

/-- The slots whose sessions are attached. -/
def State.isAttached (s : State) (k : SlotId) : Bool := (s.places k).isSome

@[simp] theorem modPort_isAttached (s : State) (p : PortId) (f : Port → Port) :
    (s.modPort p f).isAttached = s.isAttached := rfl

@[simp] theorem modKeyin_isAttached (s : State) (e : KeyinId) (f : KeyinEntry → KeyinEntry) :
    (s.modKeyin e f).isAttached = s.isAttached := rfl

@[simp] theorem modAttachment_isAttached (s : State) (k : SlotId) (f : Attachment → Attachment) :
    (s.modAttachment k f).isAttached = s.isAttached := by
  funext j
  unfold State.isAttached State.places
  rw [modAttachment_session]; split <;> simp

@[simp] theorem raise_isAttached (c : Cause) (p : Option PortId) (arg : Word16) (s : State) :
    (raise c p arg s).isAttached = s.isAttached := by
  obtain ⟨q, o, h⟩ := raise_eq c p arg s; rw [h]; rfl

@[simp] theorem writeMark_isAttached (p : PortId) (kind : MarkKind) (arg : Word16) (s : State) :
    (writeMark p kind arg s).isAttached = s.isAttached := by
  funext j
  rw [State.isAttached, writeMark_places]
  simp [State.isAttached, State.places]

@[simp] theorem setWaitPlace_isAttached (k : SlotId) (s : State) :
    (setWaitPlace k s).isAttached = s.isAttached := modAttachment_isAttached s k _

@[simp] theorem writerChange_isAttached (p : PortId) (old new : Option SlotId) (s : State) :
    (writerChange p old new s).isAttached = s.isAttached := by
  cases old <;> cases new <;> simp [writerChange]

@[simp] theorem leaveWaitList_isAttached (p : PortId) (k : SlotId) (s : State) :
    (leaveWaitList p k s).isAttached = s.isAttached := by
  unfold leaveWaitList; dsimp only; split
  · rw [forEach_reads State.isAttached setWaitPlace_isAttached, modPort_isAttached]
  · rfl

@[simp] theorem releaseWriter_isAttached (p : PortId) (s : State) :
    (releaseWriter p s).isAttached = s.isAttached := by
  unfold releaseWriter; dsimp only; split <;> simp

@[simp] theorem leavePort_isAttached (k : SlotId) (s : State) :
    (leavePort k s).isAttached = s.isAttached := by
  unfold leavePort; split
  · rfl
  · dsimp only; split <;> simp

@[simp] theorem cutPulse_isAttached (p : PortId) (s : State) :
    (cutPulse p s).isAttached = s.isAttached := by
  unfold cutPulse; split <;> simp

@[simp] theorem endRecord_isAttached (e : KeyinId) (o : Outcome) (s : State) :
    (endRecord e o s).isAttached = s.isAttached := by
  simp [endRecord]

@[simp] theorem restartQueues_isAttached (p : PortId) (s : State) :
    (restartQueues p s).isAttached = s.isAttached := by
  unfold restartQueues; dsimp only
  rw [forEach_reads State.isAttached fun e => endRecord_isAttached e _]
  simp

/-- The closing of one slot's session leaves that slot unattached, and attaches no other. -/
theorem isAttached_of_restartSession {k j : SlotId} {s : State}
    (h : (restartSession k s).isAttached j = true) : s.isAttached j = true ∧ j ≠ k := by
  unfold restartSession at h
  by_cases hj : j = k
  · subst hj
    split at h
    · simp [closeSession, State.isAttached, State.places, Session.attachment] at h
    next hfree => simp_all [State.isAttached, State.places, Session.attachment]
  · refine ⟨?_, hj⟩
    split at h
    · rw [← leavePort_isAttached k s]
      simpa [closeSession, State.isAttached, State.places, hj] using h
    · exact h

theorem isAttached_of_restartSessions {xs : List SlotId} {j : SlotId} {s : State}
    (h : (forEach xs restartSession s).isAttached j = true) : s.isAttached j = true ∧ j ∉ xs := by
  induction xs generalizing s with
  | nil => exact ⟨h, List.not_mem_nil⟩
  | cons k xs ih =>
    obtain ⟨hk, hxs⟩ := ih h
    obtain ⟨hs, hne⟩ := isAttached_of_restartSession hk
    exact ⟨hs, by simp [hne, hxs]⟩

/-- No session is attached when a warm restart zeroes the rings (R84, R186). -/
theorem unattached_before_zeroCounts (s : State) (k : SlotId) :
    (forEach allPorts restartQueues (forEach allSlots restartSession s)).isAttached k = false := by
  rw [forEach_reads State.isAttached restartQueues_isAttached, Bool.eq_false_iff]
  exact fun h => (isAttached_of_restartSessions h).2 (List.mem_finRange k)

/-- No allocation of an allowed vector is above 64 blocks (R42). -/
theorem vectorAllowed_le {s : State} {blocks : List Nat} (h : s.vectorAllowed blocks = true) :
    ∀ b ∈ blocks, b ≤ 64 := by
  simp only [State.vectorAllowed, Bool.and_eq_true, List.all_eq_true, decide_eq_true_eq] at h
  obtain ⟨⟨⟨-, hle⟩, -⟩, -⟩ := h
  exact hle

/-! ### Places in a sound store -/

theorem State.storeSound.ring {s : State} (h : s.storeSound) (p : PortId) :
    (s.port p).ring.sound (s.port p).capacity ∧ (s.port p).capacity ≤ 65536 :=
  ⟨(h p).2, capacity_le (h p).1⟩

/-- A start and a SEEK place a session in its ring (R68, R88). -/
theorem inRing_of_target {s : State} (h : s.storeSound) {a : Attachment} {x : Target}
    (hc : a.cursor = ((s.port a.port).ring.placeCursor x).1)
    (hn : a.nextMark = (s.port a.port).ring.search a.cursor) : a.inRing (s.port a.port).ring := by
  obtain ⟨hs, hcap⟩ := h.ring a.port
  rw [inRing_iff_seats hs hcap, hn]
  exact search_seats hs hcap (hc ▸ placeCursor_offset_le hs hcap x)

/-- The building of a frame leaves its session in its ring (R94, R96). -/
theorem advanced_inRing {s : State} (h : s.storeSound) {a : Attachment}
    (ha : a.inRing (s.port a.port).ring) :
    (a.advanced (s.port a.port).ring).inRing (s.port a.port).ring := by
  obtain ⟨hs, hcap⟩ := h.ring a.port
  rw [inRing_iff_seats hs hcap] at ha ⊢
  exact advanced_seats hs hcap ha

theorem storeSound_of_empty {s : State}
    (h : ∀ p, (s.port p).alloc ≤ 64 ∧ (s.port p).ring = Ring.reset) : s.storeSound := fun p => by
  rw [(h p).2]
  exact ⟨(h p).1, sound_of_empty⟩

namespace KeepsCapture
variable {w : PortId → Bool} {s t u : State}

/-- Where every ring may be rewritten, any state in which all is sound may follow. -/
theorem of_sound (hw : ∀ p, w p = true) (ht : t.deliverySound) : KeepsCapture w s t :=
  ⟨fun p hp => by simp [hw p] at hp, fun _ => ht.1, fun _ => ht⟩

/-! ### Settings, start-up and the restarts -/

protected theorem setAddress (h : KeepsCapture w s t) {m : Mac} : KeepsCapture w s (setAddress m t).2 := by
  unfold setAddress; split
  · exact h.same rfl
  · exact h

protected theorem setFrameType (h : KeepsCapture w s t) {n : Nat} :
    KeepsCapture w s (setFrameType n t).2 := by
  unfold setFrameType; split
  · exact h.same rfl
  · exact h

protected theorem setMask (h : KeepsCapture w s t) {m : Word32} : KeepsCapture w s (setMask m t).2 := by
  unfold setMask; split
  · exact h.same rfl
  · exact h

protected theorem setDestination (h : KeepsCapture w s t) {m : Mac} :
    KeepsCapture w s (setDestination m t).2 := h.same rfl

protected theorem setHoldoff (h : KeepsCapture w s t) {n : Nat} :
    KeepsCapture w s (setHoldoff n t).2 := h.same rfl

protected theorem setSessionLimit (h : KeepsCapture w s t) {n : Nat} :
    KeepsCapture w s (setSessionLimit n t).2 :=
  .ite h (h.same (capture_of_places rfl fun k => by
    simp only [State.places, State.session, Session.attachment, Fin.getElem_fin, tabMap_get]
    cases t.sessions[k.val].live <;> rfl))

protected theorem setWriterLimit (h : KeepsCapture w s t) {n : Nat} :
    KeepsCapture w s (setWriterLimit n t).2 := by
  refine .ite h (.forEach (h.same rfl) fun k u hu => ?_)
  exact .ite hu.modAttachment hu

protected theorem loadRecord (h : KeepsCapture w s t) (hw : ∀ p, w p = true) {x : LoadStep}
    {r : ImageRecord} : KeepsCapture w s (loadRecord x r t) := by
  unfold loadRecord; split
  · exact h.setAddress.setFrameType.setMask.setDestination.setHoldoff.setSessionLimit.setWriterLimit
  · refine .ite ?_ h
    unfold loadStation; split
    · exact h.applyStation
    · exact h
  · unfold loadAllocation; split
    next ha => exact h.applyVector hw (vectorAllowed_le ha)
    · exact h
  · unfold loadProfile; split
    · exact h
    · split
      · exact h.modPort
      · exact h
  · unfold loadPattern; split
    · exact h.modPattern
    · exact h
  · unfold loadKeyin; split
    · exact h
    · split
      · exact h.modKeyin
      · exact h
  · refine .ite ?_ h
    unfold loadComparator; split
    · exact h.applyComparator
    · exact h
  · exact h

protected theorem loadImage (h : KeepsCapture w s t) (hw : ∀ p, w p = true) {b : Bool} :
    KeepsCapture w s (loadImage b t) := by
  have commission : ∀ {u : State}, KeepsCapture w s u → KeepsCapture w s (applyCommission b u) :=
    fun hu => .ite (hu.same rfl) (hu.same rfl)
  have load : ∀ x u, KeepsCapture w s u → KeepsCapture w s (loadStep (imageRecordsOf t.memory) x u) :=
    fun x u hu => hu.forEach fun _ _ hv => hv.loadRecord hw
  unfold loadImage; dsimp only; split
  · exact (commission (h.forEach load)).forEach load
  · exact commission h.raise

protected theorem openReceive (h : KeepsCapture w s t) : KeepsCapture w s (openReceive t) := h.same rfl

protected theorem startUp (h : KeepsCapture w s t) (hw : ∀ p, w p = true) {b : Bool} :
    KeepsCapture w s (startUp b t) := by
  have started := (h.loadImage hw (b := b)).forEach (xs := allPorts) (f := startPort)
    fun _ _ hu => .ite hu.profileSwitch hu
  exact started.openReceive

protected theorem zeroCounts (h : KeepsCapture w s t) (hw : ∀ p, w p = true)
    (hk : ∀ k, t.isAttached k = false) : KeepsCapture w s (zeroCounts t) := by
  have empty : t.storeSound → (zeroCounts t).storeSound := fun ht =>
    storeSound_of_empty fun p => ⟨by simpa [zeroCounts, State.port] using (ht p).1,
      by simp [zeroCounts, State.port]⟩
  refine h.trans ⟨fun p hp => by simp [hw p] at hp, empty, fun ht => ⟨empty ht.1, fun k a ha => ?_⟩⟩
  have : t.isAttached k = true := by
    rw [State.isAttached, State.places, show (t.session k).attachment = some a from ha]; rfl
  simp [hk k] at this

protected theorem rearmTables (h : KeepsCapture w s t) : KeepsCapture w s (rearmTables t) := h.same rfl

protected theorem warmEffects (h : KeepsCapture w s t) (hw : ∀ p, w p = true) :
    KeepsCapture w s (warmEffects t) := by
  have closed := h.forEach (xs := allSlots) (f := restartSession) fun _ _ hu => .ite hu.closeSession hu
  have stopped := closed.forEach (xs := allPorts) (f := restartQueues) fun _ _ hu =>
    hu.modPort.cutPulse.forEach fun _ _ hv => hv.endRecord
  have zeroed := stopped.zeroCounts hw (unattached_before_zeroCounts t)
  exact zeroed.rearmTables.forEach fun _ _ hu => .ite hu.clearWindows hu.profileSwitch

end KeepsCapture
end Sys2Proof.Machine
end

section
/-! PROOFS. Every request and every command keeps the capture store; from this the store's soundness, the
places of the sessions and the bytes of the rings follow for every step. -/

namespace Sys2Proof.Machine

namespace KeepsCapture
variable {w : PortId → Bool} {s t u : State}

protected theorem withUplink (h : KeepsCapture w s t) {x : Uplink} :
    KeepsCapture w s { t with uplink := x } := h.same rfl
protected theorem withNotice (h : KeepsCapture w s t) {x : NoticeUnit} :
    KeepsCapture w s { t with notice := x } := h.same rfl
protected theorem withSaving (h : KeepsCapture w s t) {x : Option (List ImageRecord)} :
    KeepsCapture w s { t with saving := x } := h.same rfl
protected theorem withMemory (h : KeepsCapture w s t) {x : Option (List ImageRecord)} {m : ConfigMemory} :
    KeepsCapture w s { t with saving := x, memory := m } := h.same rfl

/-! ### The requests of a session -/

/-- An attachment may change in any way that leaves the session in its ring. -/
protected theorem moveAttachment (h : KeepsCapture w s t) {k : SlotId} {f : Attachment → Attachment}
    (hf : t.deliverySound → ∀ a ∈ (t.session k).attachment, (f a).inRing (t.port (f a).port).ring) :
    KeepsCapture w s (t.modAttachment k f) :=
  h.modSession fun ht a ha => by
    rw [mapAttachment_attachment] at ha
    obtain ⟨b, hb, rfl⟩ := Option.mem_map.1 ha
    exact hf ht b hb

protected theorem touchSession (h : KeepsCapture w s t) {k : SlotId} {m : Mac} :
    KeepsCapture w s (touchSession k m t) :=
  h.modSession fun ht a ha => ht.2 k a (by
    cases hl : (t.session k).live with
    | none => simp [Session.attachment, hl] at ha
    | some l => simpa [Session.attachment, hl] using ha)

protected theorem accept (h : KeepsCapture w s t) {f : RxFrame} : KeepsCapture w s (accept f t) :=
  .ite h.removeFrame.countUplink h.removeFrame.countUplink.touchSession

protected theorem placeSession (h : KeepsCapture w s t) {k : SlotId} {p : PortId} {x : Target} {c g : Nat} :
    KeepsCapture w s (placeSession k p x c g t) :=
  h.modSession fun ht a ha => by
    cases hl : (t.session k).live with
    | none => simp [Session.attachment, hl] at ha
    | some l =>
      obtain rfl : Attachment.placed p (t.port p).ring x c g = a := by
        simpa [Session.attachment, hl] using ha
      exact inRing_of_target ht.1 rfl rfl

protected theorem serveSeek (h : KeepsCapture w s t) {c : Ctx} {x : Nat × Pos} :
    KeepsCapture w s (serveSeek c x t) := by
  unfold serveSeek; split
  next target a _ ha =>
    refine (h.moveAttachment fun ht b hb => ?_).reply
    obtain rfl : a = b := by simpa [ha] using hb
    exact inRing_of_target ht.1 rfl rfl
  · exact h.reply

protected theorem attachTo (h : KeepsCapture w s t) {c : Ctx} {r : AttachRequest} {a : AttachPlan} :
    KeepsCapture w s (attachTo c r a t) := by
  unfold attachTo; dsimp only
  refine .reply ?_
  split
  · exact h.placeSession.contend
  · exact h.placeSession

protected theorem serveAttach (h : KeepsCapture w s t) {c : Ctx} {r : AttachRequest} :
    KeepsCapture w s (serveAttach c r t) := by
  unfold serveAttach; split
  · exact h.reply
  · exact .ite h.reply (.ite h.reply (.ite h.reply h.attachTo))

protected theorem serveOpen (h : KeepsCapture w s t) {c : Ctx} : KeepsCapture w s (serveOpen c t) := by
  unfold serveOpen; split
  · exact h.reply
  · split
    · exact h.reply
    · split
      · exact h.reply
      · exact .reply (h.modSession fun _ a ha => by simp [Session.attachment, Session.openedBy] at ha)

protected theorem appendItems (h : KeepsCapture w s t) {p : PortId} {xs : List QueueItem} :
    KeepsCapture w s (appendItems p xs t) := h.modPort.txChoice

protected theorem serveInput (h : KeepsCapture w s t) {c : Ctx} {x : Word32 × List Byte} :
    KeepsCapture w s (serveInput c x t) := by
  unfold serveInput; dsimp only; split
  · exact h
  · refine .ite h.modAttachment (.ite h.modAttachment ?_)
    unfold writerInput; split
    · exact h.modAttachment
    · exact h.modAttachment
    · exact h.modAttachment.appendItems

protected theorem serveBreak (h : KeepsCapture w s t) {c : Ctx} : KeepsCapture w s (serveBreak c t) := by
  unfold serveBreak; split
  · exact h.reply
  · exact .ite h.reply (.ite h.reply (.ite h.reply h.appendItems.reply))

protected theorem serveRelease (h : KeepsCapture w s t) {c : Ctx} {n : Nat} :
    KeepsCapture w s (serveRelease c n t) := by
  unfold serveRelease; split
  · exact h.reply
  · exact .ite h.releaseHold.reply h.reply

protected theorem servePulse (h : KeepsCapture w s t) {c : Ctx} {n : Nat} :
    KeepsCapture w s (servePulse c n t) := by
  refine .ite h.reply ?_
  split
  · exact h.reply
  · refine .ite h.reply ?_
    split
    · exact h.reply
    · exact h.startPulse.reply

/-- A frame sent to a session leaves the session in its ring (R94, R96). -/
protected theorem sendData (h : KeepsCapture w s t) {k : SlotId} : KeepsCapture w s (sendData k t) := by
  unfold sendData; split
  · exact h
  next l hl =>
    split
    · exact h
    next a ha =>
      refine .sendFrame (.withUplink (h.moveAttachment fun ht b hb => ?_))
      have hsession : (t.session k).attachment = some a := by simp [Session.attachment, hl, ha]
      obtain rfl : a = b := by simpa [hsession] using hb
      exact advanced_inRing ht.1 (ht.2 k a hsession)

/-! ### The requests of the key-in and watch units -/

protected theorem withEntry (h : KeepsCapture w s t) {c : Ctx} {n : Nat} {act : KeyinId → State → State}
    (hact : ∀ e, KeepsCapture w s (act e t)) : KeepsCapture w s (withEntry c n act t) := by
  refine .ite h.reply ?_
  split
  · exact h.reply
  · exact .ite h.reply (hact _)

protected theorem startRequested (h : KeepsCapture w s t) {c : Ctx} {e : KeyinId} :
    KeepsCapture w s (startRequested c e t) :=
  .ite h.reply (.ite h.reply (.ite h.reply h.makePending.startStep.reply))

protected theorem stopRequested (h : KeepsCapture w s t) {c : Ctx} {e : KeyinId} :
    KeepsCapture w s (stopRequested c e t) := by
  refine .reply ?_
  split
  · exact h.stopEntry
  · exact h.endEntry
  · exact h

protected theorem armRequested (h : KeepsCapture w s t) {c : Ctx} {e : KeyinId} :
    KeepsCapture w s (armRequested c e t) :=
  .ite h.reply (.ite h.reply h.modKeyin.reply)

protected theorem rearmRequested (h : KeepsCapture w s t) {c : Ctx} {i p : Nat} :
    KeepsCapture w s (rearmRequested c i p t) := by
  unfold rearmRequested; split
  · exact h.reply
  · refine .ite h.reply ?_
    split
    · exact h.reply
    · split
      · exact .ite h.reply (.ite h.reply h.modPattern.reply)
      · exact .reply (h.forEach fun _ _ hu => hu.modPattern)

/-! ### The MANAGE operations -/

protected theorem managed (h : KeepsCapture w s t) {isWrite : Bool} {c : Ctx} {act : State → State}
    (hact : KeepsCapture w s (act t)) : KeepsCapture w s (managed isWrite c act t) :=
  .ite h.reply (.ite h.reply hact)

protected theorem serveStationWrite (h : KeepsCapture w s t) {c : Ctx} {x : StationWrite} :
    KeepsCapture w s (serveStationWrite c x t) := by
  unfold serveStationWrite; split
  · exact h.applyStation.reply
  · exact h.reply

protected theorem servePatternWrite (h : KeepsCapture w s t) {c : Ctx} {x : PatternWrite} :
    KeepsCapture w s (servePatternWrite c x t) := by
  unfold servePatternWrite; split
  · exact .reply h.modPattern
  · exact h.reply

protected theorem serveComparatorWrite (h : KeepsCapture w s t) {c : Ctx} {x : ComparatorWrite} :
    KeepsCapture w s (serveComparatorWrite c x t) := by
  unfold serveComparatorWrite; split
  · exact h.applyComparator.reply
  · exact h.reply

protected theorem serveKeyinWrite (h : KeepsCapture w s t) {c : Ctx} {x : KeyinWrite} :
    KeepsCapture w s (serveKeyinWrite c x t) := by
  unfold serveKeyinWrite; split
  · exact h.reply
  · refine .ite h.reply ?_
    split
    · exact .reply h.modKeyin
    · exact h.reply

protected theorem serveProfileWriteActive (h : KeepsCapture w s t) {c : Ctx} {x : Nat × RawProfile} :
    KeepsCapture w s (serveProfileWriteActive c x t) := by
  unfold serveProfileWriteActive; split
  · exact h.reply
  · split
    · exact h.applyActive.reply
    · exact h.reply

protected theorem setStaged (h : KeepsCapture w s t) {p : PortId} {f : Option Profile} :
    KeepsCapture w s (setStaged p f t) := h.modPort

protected theorem serveProfileWriteStaged (h : KeepsCapture w s t) {c : Ctx}
    {x : Nat × Option RawProfile} : KeepsCapture w s (serveProfileWriteStaged c x t) := by
  unfold serveProfileWriteStaged; split
  · exact h.reply
  · split
    · exact h.setStaged.reply
    · split
      · exact h.setStaged.reply
      · exact h.reply

protected theorem serveAllocate (h : KeepsCapture w s t) (hw : ∀ p, w p = true) {c : Ctx}
    {blocks : List Nat} : KeepsCapture w s (serveAllocate c blocks t) := by
  unfold serveAllocate; split
  next ha => exact (h.applyVector hw (vectorAllowed_le ha)).reply
  · exact h.reply

protected theorem serveCounterReset (h : KeepsCapture w s t) {c : Ctx} {x : Nat × Nat} :
    KeepsCapture w s (serveCounterReset c x t) := by
  unfold serveCounterReset; split
  · exact h.counterEvent.reply
  · exact h.reply

protected theorem servePortRestart (h : KeepsCapture w s t) {c : Ctx} {n : Nat} :
    KeepsCapture w s (servePortRestart c n t) := by
  unfold servePortRestart; split
  · exact h.restartPort.reply
  · exact h.reply

protected theorem serveStationRead (h : KeepsCapture w s t) {c : Ctx} {n : Nat} :
    KeepsCapture w s (serveStationRead c n t) := by
  unfold serveStationRead; split <;> exact h.reply

protected theorem servePatternRead (h : KeepsCapture w s t) {c : Ctx} {n : Nat} :
    KeepsCapture w s (servePatternRead c n t) := by
  unfold servePatternRead; split <;> exact h.reply

protected theorem serveComparatorRead (h : KeepsCapture w s t) {c : Ctx} {n : Nat} :
    KeepsCapture w s (serveComparatorRead c n t) := by
  unfold serveComparatorRead; split <;> exact h.reply

protected theorem serveKeyinRead (h : KeepsCapture w s t) {c : Ctx} {n : Nat} :
    KeepsCapture w s (serveKeyinRead c n t) := by
  unfold serveKeyinRead; split <;> exact h.reply

protected theorem servePortStatus (h : KeepsCapture w s t) {c : Ctx} {n : Nat} :
    KeepsCapture w s (servePortStatus c n t) := by
  unfold servePortStatus; split <;> exact h.reply

end KeepsCapture

/-! ### Every command -/

/-- Where the command has a next state, the step to it keeps the capture store. -/
def NextKeepsCapture (w : PortId → Bool) (s : State) (o : Host.Outcome State Fault Refusal) : Prop :=
  ∀ t, o = .next t → KeepsCapture w s t

theorem NextKeepsCapture.next {w : PortId → Bool} {s t : State} (h : KeepsCapture w s t) :
    NextKeepsCapture w s (.next t) := by
  rintro _ ⟨⟩
  exact h

theorem NextKeepsCapture.same (w : PortId → Bool) (s : State) : NextKeepsCapture w s (.next s) :=
  .next (.refl s)

theorem NextKeepsCapture.ite {w : PortId → Bool} {s t u : State} {c : Prop} [Decidable c]
    (ht : KeepsCapture w s t) (hu : KeepsCapture w s u) :
    NextKeepsCapture w s (if c then .next t else .next u) := by
  split
  · exact .next ht
  · exact .next hu

theorem serve_keepsCapture {w : PortId → Bool} {α : Type} {pick : Request → Option α}
    {act : Ctx → α → State → State}
    (h : ∀ {s t : State} (c : Ctx) (a : α), KeepsCapture w s t → KeepsCapture w s (act c a t))
    (s : State) : NextKeepsCapture w s (serve pick act s) := by
  unfold serve; split
  · exact .same w s
  next f _ =>
    split
    · split
      · exact .next (h _ _ (KeepsCapture.refl s).accept).settle
      · exact .same w s
    · exact .same w s

theorem serveManage_keepsCapture {w : PortId → Bool} {α : Type} {isWrite : Bool}
    {pick : Manage → Option α} {act : Ctx → α → State → State}
    (h : ∀ {s t : State} (c : Ctx) (a : α), KeepsCapture w s t → KeepsCapture w s (act c a t))
    (s : State) : NextKeepsCapture w s (serveManage isWrite pick act s) :=
  serve_keepsCapture (fun c a ht => ht.managed (h c a ht)) s

theorem execColdReset_keepsCapture {w : PortId → Bool} (hw : ∀ p, w p = true) (x : ColdInputs)
    (s : State) : NextKeepsCapture w s (execColdReset x s) := by
  have cold : (coldState x s).deliverySound := by
    refine ⟨storeSound_of_empty fun p => by rw [coldState_port]; exact ⟨(by decide : 16 ≤ 64), rfl⟩,
      fun k a ha => ?_⟩
    have free : ((coldState x s).session k).attachment = none := by
      simp [coldState, State.reset, State.session, Session.reset, Session.attachment]
    simp [free] at ha
  exact .next ((KeepsCapture.of_sound hw cold).startUp hw).settle

theorem execFrameReceive_keepsCapture {w : PortId → Bool} (bytes : List Byte) (bad : Bool) (s : State) :
    NextKeepsCapture w s (execFrameReceive bytes bad s) := by
  have h := KeepsCapture.refl (w := w) s
  exact .next <| .ite h <| .ite h.countUplink <| .ite h.countUplink <| .ite h.countUplink <|
    .ite h.countUplink h.withUplink

theorem execMalformedFrame_keepsCapture {w : PortId → Bool} (s : State) :
    NextKeepsCapture w s (execMalformedFrame s) := by
  have h := KeepsCapture.refl (w := w) s
  unfold execMalformedFrame; split
  · exact .same w s
  · split
    · exact .next h.removeFrame.countUplink
    · exact .next h.removeFrame.countUplink
    · exact .next h.removeFrame.countUplink
    · exact .same w s

theorem execUnknownKind_keepsCapture {w : PortId → Bool} (s : State) :
    NextKeepsCapture w s (execUnknownKind s) := by
  unfold execUnknownKind; split
  · split
    · exact .next (KeepsCapture.refl s).removeFrame.reply
    · exact .same w s
  · exact serve_keepsCapture (fun c _ ht => ht.managed ht.reply) s

theorem execSaveDone_keepsCapture {w : PortId → Bool} (s : State) :
    NextKeepsCapture w s (execSaveDone s) := by
  unfold execSaveDone; split
  · exact .same w s
  · exact .next (.raise (.withMemory (.refl s)))

theorem execSaveFailed_keepsCapture {w : PortId → Bool} (s : State) :
    NextKeepsCapture w s (execSaveFailed s) := by
  unfold execSaveFailed; split
  · exact .same w s
  · exact .next (.raise (.withMemory (.refl s)))

theorem execReplyTurn_keepsCapture {w : PortId → Bool} (s : State) :
    NextKeepsCapture w s (execReplyTurn s) := by
  unfold execReplyTurn; split
  · exact .same w s
  · exact .next (.sendFrame (.withUplink (.refl s)))

theorem execNoticeTurn_keepsCapture {w : PortId → Bool} (s : State) :
    NextKeepsCapture w s (execNoticeTurn s) := by
  unfold execNoticeTurn; split
  · split
    · exact .next (.sendFrame (.withNotice (.refl s)))
    · exact .same w s
  · exact .same w s

theorem execDataTurn_keepsCapture {w : PortId → Bool} (s : State) :
    NextKeepsCapture w s (execDataTurn s) := by
  unfold execDataTurn; split
  · split
    · exact .next (KeepsCapture.refl s).sendData.settle
    · exact .same w s
  · exact .same w s

theorem execGatherTimerExpiry_keepsCapture {w : PortId → Bool} (k : SlotId) (s : State) :
    NextKeepsCapture w s (execGatherTimerExpiry k s) :=
  .next ((KeepsCapture.refl s).modAttachment fun a => by split <;> rfl)

theorem execWriterIdleExpiry_keepsCapture {w : PortId → Bool} (k : SlotId) (s : State) :
    NextKeepsCapture w s (execWriterIdleExpiry k s) := by
  have demoted : KeepsCapture w s (demoteWriter k s) := by
    unfold demoteWriter; split
    · exact .refl s
    · exact (KeepsCapture.refl s).releaseWriter.modAttachment
  exact .ite demoted.settle (.refl s)

theorem execDeadThreshold_keepsCapture {w : PortId → Bool} (p : PortId) (s : State) :
    NextKeepsCapture w s (execDeadThreshold p s) := by
  unfold execDeadThreshold; split
  · exact .next (KeepsCapture.refl s).deadFromLive.settle
  · exact .next (KeepsCapture.refl s).enterDead.settle
  · exact .same w s

theorem execByteSent_keepsCapture {w : PortId → Bool} (p : PortId) (b : Bool) (s : State) :
    NextKeepsCapture w s (execByteSent p b s) := by
  unfold execByteSent; split
  · exact .next (KeepsCapture.refl s).finishByte.settle
  · exact .same w s

theorem execBreakTokenEnd_keepsCapture {w : PortId → Bool} (p : PortId) (s : State) :
    NextKeepsCapture w s (execBreakTokenEnd p s) := by
  unfold execBreakTokenEnd; split
  · exact .next (KeepsCapture.refl s).itemEnd.freeTransmitter.settle
  · exact .same w s

/-- Every command keeps the capture store, but for the rings that it may rewrite. -/
theorem exec_keepsCapture (c : Instr) (s : State) : NextKeepsCapture (rewritesRing c) s (exec c s) := by
  have h := KeepsCapture.refl (w := rewritesRing c) s
  cases c with
  | coldReset x => exact execColdReset_keepsCapture (fun _ => rfl) x s
  | frameReceive bytes bad => exact execFrameReceive_keepsCapture bytes bad s
  | malformedFrame => exact execMalformedFrame_keepsCapture s
  | unknownKind => exact execUnknownKind_keepsCapture s
  | probe =>
    change NextKeepsCapture _ s (execProbe s)
    exact serve_keepsCapture (fun _ _ ht => ht.reply) s
  | openSession =>
    change NextKeepsCapture _ s (execOpenSession s)
    exact serve_keepsCapture (fun _ _ ht => ht.serveOpen) s
  | closeSession =>
    change NextKeepsCapture _ s (execCloseSession s)
    exact serve_keepsCapture (fun _ _ ht => ht.closeSession.reply) s
  | attach =>
    change NextKeepsCapture _ s (execAttach s)
    exact serve_keepsCapture (fun _ _ ht => ht.serveAttach) s
  | detach =>
    change NextKeepsCapture _ s (execDetach s)
    exact serve_keepsCapture (fun _ _ ht => ht.detachSession.reply) s
  | seek =>
    change NextKeepsCapture _ s (execSeek s)
    exact serve_keepsCapture (fun _ _ ht => ht.serveSeek) s
  | credit =>
    change NextKeepsCapture _ s (execCredit s)
    exact serve_keepsCapture (fun _ _ ht => ht.modAttachment) s
  | input =>
    change NextKeepsCapture _ s (execInput s)
    exact serve_keepsCapture (fun _ _ ht => ht.serveInput) s
  | breakRequest =>
    change NextKeepsCapture _ s (execBreakRequest s)
    exact serve_keepsCapture (fun _ _ ht => ht.serveBreak) s
  | release =>
    change NextKeepsCapture _ s (execRelease s)
    exact serve_keepsCapture (fun _ _ ht => ht.serveRelease) s
  | pulse =>
    change NextKeepsCapture _ s (execPulse s)
    exact serve_keepsCapture (fun _ _ ht => ht.servePulse) s
  | keyinStart =>
    change NextKeepsCapture _ s (execKeyinStart s)
    exact serve_keepsCapture (fun _ _ ht => ht.withEntry fun _ => ht.startRequested) s
  | keyinStop =>
    change NextKeepsCapture _ s (execKeyinStop s)
    exact serve_keepsCapture (fun _ _ ht => ht.withEntry fun _ => ht.stopRequested) s
  | arm =>
    change NextKeepsCapture _ s (execArm s)
    exact serve_keepsCapture (fun _ _ ht => ht.withEntry fun _ => ht.armRequested) s
  | rearm =>
    change NextKeepsCapture _ s (execRearm s)
    exact serve_keepsCapture (fun _ _ ht => .ite ht.reply ht.rearmRequested) s
  | stationWrite =>
    change NextKeepsCapture _ s (execStationWrite s)
    exact serveManage_keepsCapture (fun _ _ ht => ht.serveStationWrite) s
  | stationRead =>
    change NextKeepsCapture _ s (execStationRead s)
    exact serveManage_keepsCapture (fun _ _ ht => ht.serveStationRead) s
  | patternWrite =>
    change NextKeepsCapture _ s (execPatternWrite s)
    exact serveManage_keepsCapture (fun _ _ ht => ht.servePatternWrite) s
  | patternRead =>
    change NextKeepsCapture _ s (execPatternRead s)
    exact serveManage_keepsCapture (fun _ _ ht => ht.servePatternRead) s
  | comparatorWrite =>
    change NextKeepsCapture _ s (execComparatorWrite s)
    exact serveManage_keepsCapture (fun _ _ ht => ht.serveComparatorWrite) s
  | comparatorRead =>
    change NextKeepsCapture _ s (execComparatorRead s)
    exact serveManage_keepsCapture (fun _ _ ht => ht.serveComparatorRead) s
  | keyinWrite =>
    change NextKeepsCapture _ s (execKeyinWrite s)
    exact serveManage_keepsCapture (fun _ _ ht => ht.serveKeyinWrite) s
  | keyinRead =>
    change NextKeepsCapture _ s (execKeyinRead s)
    exact serveManage_keepsCapture (fun _ _ ht => ht.serveKeyinRead) s
  | profileWriteActive =>
    change NextKeepsCapture _ s (execProfileWriteActive s)
    exact serveManage_keepsCapture (fun _ _ ht => ht.serveProfileWriteActive) s
  | profileWriteStaged =>
    change NextKeepsCapture _ s (execProfileWriteStaged s)
    exact serveManage_keepsCapture (fun _ _ ht => ht.serveProfileWriteStaged) s
  | portStatus =>
    change NextKeepsCapture _ s (execPortStatus s)
    exact serveManage_keepsCapture (fun _ _ ht => ht.servePortStatus) s
  | allocate =>
    change NextKeepsCapture _ s (execAllocate s)
    exact serveManage_keepsCapture (fun _ _ ht => ht.serveAllocate fun _ => rfl) s
  | allocationRead =>
    change NextKeepsCapture _ s (execAllocationRead s)
    exact serveManage_keepsCapture (fun _ _ ht => ht.reply) s
  | counterReset =>
    change NextKeepsCapture _ s (execCounterReset s)
    exact serveManage_keepsCapture (fun _ _ ht => ht.serveCounterReset) s
  | portRestart =>
    change NextKeepsCapture _ s (execPortRestart s)
    exact serveManage_keepsCapture (fun _ _ ht => ht.servePortRestart) s
  | stationAddressWrite =>
    change NextKeepsCapture _ s (execStationAddressWrite s)
    exact serveManage_keepsCapture (fun _ _ ht => ht.setAddress.reply) s
  | frameTypeWrite =>
    change NextKeepsCapture _ s (execFrameTypeWrite s)
    exact serveManage_keepsCapture (fun _ _ ht => ht.setFrameType.reply) s
  | noticeDestinationWrite =>
    change NextKeepsCapture _ s (execNoticeDestinationWrite s)
    exact serveManage_keepsCapture (fun _ _ ht => ht.setDestination.reply) s
  | noticeMaskWrite =>
    change NextKeepsCapture _ s (execNoticeMaskWrite s)
    exact serveManage_keepsCapture (fun _ _ ht => ht.setMask.reply) s
  | holdoffWrite =>
    change NextKeepsCapture _ s (execHoldoffWrite s)
    exact serveManage_keepsCapture (fun _ _ ht => ht.setHoldoff.reply) s
  | sessionIdleLimitWrite =>
    change NextKeepsCapture _ s (execSessionIdleLimitWrite s)
    exact serveManage_keepsCapture (fun _ _ ht => ht.setSessionLimit.reply) s
  | writerIdleLimitWrite =>
    change NextKeepsCapture _ s (execWriterIdleLimitWrite s)
    exact serveManage_keepsCapture (fun _ _ ht => ht.setWriterLimit.reply) s
  | settingsRead =>
    change NextKeepsCapture _ s (execSettingsRead s)
    exact serveManage_keepsCapture (fun _ _ ht => ht.reply) s
  | noticeRead =>
    change NextKeepsCapture _ s (execNoticeRead s)
    exact serveManage_keepsCapture (fun _ _ ht => ht.reply) s
  | save =>
    change NextKeepsCapture _ s (execSave s)
    exact serveManage_keepsCapture (fun _ _ ht => ht.withSaving.reply) s
  | saveDone => exact execSaveDone_keepsCapture s
  | saveFailed => exact execSaveFailed_keepsCapture s
  | warmRestart =>
    change NextKeepsCapture _ s (execWarmRestart s)
    exact serveManage_keepsCapture (fun _ _ ht => ht.reply.warmEffects fun _ => rfl) s
  | replyTurn => exact execReplyTurn_keepsCapture s
  | noticeTurn => exact execNoticeTurn_keepsCapture s
  | dataTurn => exact execDataTurn_keepsCapture s
  | gatherTimerExpiry k => exact execGatherTimerExpiry_keepsCapture k s
  | sessionIdleExpiry k => exact .ite h.closeSession.raise.settle h
  | writerIdleExpiry k => exact execWriterIdleExpiry_keepsCapture k s
  | holdoffTimerExpiry => exact .next h.withNotice
  | byteStored p data b order => exact .ite (h.storeCharacter (beq_self_eq_true p)).settle h
  | framingError p => exact .ite h.modPort.counterEvent.settle h
  | breakRecorded p => exact .ite h.recordBreak.settle h
  | deadThreshold p => exact execDeadThreshold_keepsCapture p s
  | liveQualification p => exact .ite h.leaveDead.settle h
  | detectorRun p edge mark => exact .ite h.acceptEdge.settle h.modPort
  | detectionWindowExpiry p => exact .ite h.modPort h
  | switchingEnd p => exact .next h.settleSwitching.settle
  | transmitterChoice p high => exact .next h.modPort.txChoice.settle
  | byteSent p b => exact execByteSent_keepsCapture p b s
  | breakTokenEnd p => exact execBreakTokenEnd_keepsCapture p s
  | intervalTimerExpiry e => exact .next h.intervalExpiry.settle
  | ctsAssert p => exact .ite h.modPort.txChoice.settle h.modPort
  | pulseTimerExpiry p => exact .ite h.endPulse.settle h
  | senseSample p high => exact .ite h.takeSample.settle h.modPort
  | spaceRunEnd p => exact .next h.modPort

/-- The passing of a millisecond leaves the capture store as it was. -/
theorem tick_capture (s : State) : (tick s).capture = s.capture := by
  have places : ∀ k, (tick s).places k = s.places k := fun k => by
    simp only [tick, State.places, State.session, Session.attachment, Session.tick, Fin.getElem_fin,
      tabMap_get]
    cases s.sessions[k.val].live with
    | none => rfl
    | some l => cases h : l.attachment <;> simp [h, Attachment.tick]
  exact Prod.ext (funext fun p => by simp [State.capture, tick, State.port, Port.tick]) (funext places)

/-- Every step keeps a sound store sound and the sessions in their rings. -/
theorem step_keepsCapture {s t : State} (h : step s = .next t) :
    (s.storeSound → t.storeSound) ∧ (s.deliverySound → t.deliverySound) := by
  unfold step at h
  split at h
  · obtain rfl : tick s = t := by simpa using h
    have kept := KeepsCapture.of_capture (w := fun _ => true) (tick_capture s)
    exact ⟨kept.store, kept.delivery⟩
  next c rest _ =>
    have kept := exec_keepsCapture c { s with pending := rest } t h
    exact ⟨kept.store, kept.delivery⟩

/-- Settles O7: a mark, a stored byte and an emptying keep the ring they act on sound, and no other
operation acts on a ring. -/
theorem ringsAndMarksStaySound : Obligations.RingsAndMarksStaySound :=
  fun _ _ hs h => (step_keepsCapture h).1 hs

/-- Settles O8: each operation on a ring moves the sessions on its port with it, and a start, a SEEK and
the building of a frame place a session in its ring. -/
theorem cursorsStayInTheirRings : Obligations.CursorsStayInTheirRings :=
  fun _ _ hs h => (step_keepsCapture h).2 hs

/-- Settles O15: what a position reads rests on the head and the bytes held alone. -/
theorem ringBytesChangeOnlyByStoring : Obligations.RingBytesChangeOnlyByStoring := by
  intro c s t p hp h
  obtain ⟨hhead, hheld⟩ := (exec_keepsCapture c s t h).bytes p hp
  refine ⟨hhead, by rw [Ring.fill, hheld]; rfl, fun x => ?_⟩
  rw [Ring.read, Ring.oldest, hhead, hheld]
  rfl

end Sys2Proof.Machine
end

section
/-! PROOFS. Writing a mark on a ring, and the outcomes of a raise: discarded, collapsed into the record of
its cause, port and argument, queued, or the overflow flag set. -/

namespace Sys2Proof.Machine

/-! ### Raising a cause (R161 to R163) -/

theorem admitted_iff (mask : Word32) (c : Cause) :
    admitted mask c = true ↔ c.isEvent = false ∨ mask.getLsbD (c.code - 16) = true := by
  simp [admitted]

theorem raise_discarded {s : State} {c : Cause} (h : ¬ admitted s.notice.mask c = true) (p : Option PortId)
    (arg : Word16) : raise c p arg s = s := if_neg h

theorem raise_admitted {s : State} {c : Cause} (h : admitted s.notice.mask c = true) (p : Option PortId)
    (arg : Word16) : raise c p arg s = { s with notice := s.notice.take (s.noticeOf c p arg) } := if_pos h

/-- A record is that of a raise where it has the cause, the port and the argument raised (R163). -/
theorem sameKey_noticeOf_iff (s : State) (c : Cause) (p : Option PortId) (arg : Word16) (m : NoticeRecord) :
    m.sameKey (s.noticeOf c p arg) = true ↔ m.cause = c ∧ m.port = p ∧ m.arg = arg := by
  simp [NoticeRecord.sameKey, State.noticeOf, and_assoc]

section
variable {n m : NoticeRecord} {u : NoticeUnit}

/-- A record of the key takes the raise in, and no other record changes. -/
theorem take_collapses {before after : List NoticeRecord} (hq : u.queue = before ++ m :: after)
    (hm : m.sameKey n = true) (hothers : ∀ x ∈ before ++ after, ¬ x.sameKey n = true) :
    u.take n = { u with queue := before ++ m.collapse n :: after } := by
  have keep : ∀ xs : List NoticeRecord, (∀ x ∈ xs, x ∈ before ++ after) →
      xs.map (fun x => if x.sameKey n then x.collapse n else x) = xs := fun xs hxs =>
    (List.map_congr_left fun x hx => if_neg (hothers x (hxs x hx))).trans (List.map_id xs)
  have hbefore := keep before fun x hx => List.mem_append_left after hx
  have hafter := keep after fun x hx => List.mem_append_right before hx
  unfold NoticeUnit.take
  rw [if_pos (by simp [hq, hm]), hq, List.map_append, List.map_cons, hbefore, hafter, if_pos hm]

theorem not_any_sameKey (hnone : ∀ x ∈ u.queue, ¬ x.sameKey n = true) :
    ¬ u.queue.any (·.sameKey n) = true := by
  simpa using hnone

theorem take_queues (hnone : ∀ x ∈ u.queue, ¬ x.sameKey n = true) (hroom : u.queue.length < 32) :
    u.take n = { u with queue := u.queue ++ [n] } :=
  (if_neg (not_any_sameKey hnone)).trans (if_pos hroom)

theorem take_overflows (hnone : ∀ x ∈ u.queue, ¬ x.sameKey n = true) (hfull : 32 ≤ u.queue.length) :
    u.take n = { u with overflow := true } :=
  (if_neg (not_any_sameKey hnone)).trans (if_neg (Nat.not_lt.2 hfull))

/-- The count of a record saturates at 255 (R163). -/
theorem collapse_eq (h : m.count ≤ 255) : m.collapse n = { m with
    count := min 255 (m.count + 1), portState := n.portState, sense := n.sense } := by
  have hcount : (if m.count < 255 then m.count + 1 else m.count) = min 255 (m.count + 1) := by
    split <;> omega
  rw [NoticeRecord.collapse, hcount]

end

/-! ### The marks list (R49) -/

theorem addMark_marks_of_room {r : Ring} (h : r.marks.length < 16) (kind : MarkKind) (arg : Word16) :
    (r.addMark kind arg).marks = r.marks ++ [⟨r.nextMark, r.head, kind, arg⟩] := by
  have : ¬ Config.maxMarks ≤ r.marks.length := Nat.not_le.2 h
  simp only [Ring.addMark, this, if_false]

theorem addMark_marks_of_full {r : Ring} {first : Mark} {rest : List Mark} (hmarks : r.marks = first :: rest)
    (h : r.marks.length = 16) (kind : MarkKind) (arg : Word16) :
    (r.addMark kind arg).marks = rest ++ [⟨r.nextMark, r.head, kind, arg⟩] := by
  have : Config.maxMarks ≤ r.marks.length := Nat.le_of_eq h.symm
  unfold Ring.addMark
  dsimp only
  rw [if_pos this, hmarks, List.drop_one, List.tail_cons]

/-- Settles O44: the marks list by its length, a raise by the mask, the keys queued and the room. -/
theorem marksAndCausesAreRecorded : Obligations.MarksAndCausesAreRecorded := by
  refine ⟨fun r kind arg => ⟨fun h => addMark_marks_of_room h kind arg,
    fun _ _ hmarks h => addMark_marks_of_full hmarks h kind arg, rfl, rfl, rfl⟩, fun s c p arg => ?_⟩
  dsimp only
  rw [← admitted_iff]
  simp only [← sameKey_noticeOf_iff s c p arg]
  refine ⟨fun h => raise_discarded h p arg, fun h => ?_⟩
  rw [raise_admitted h p arg]
  refine ⟨fun before m after hq hothers hc hp ha _ hcount => ?_,
    fun hnone => ⟨fun hroom => ?_, fun hfull => ?_⟩⟩
  · have hm := (sameKey_noticeOf_iff s c p arg m).2 ⟨hc, hp, ha⟩
    rw [take_collapses hq hm hothers, collapse_eq hcount]
  · rw [take_queues hnone hroom]
  · rw [take_overflows hnone hfull]

end Sys2Proof.Machine
end

section
/-! PROOFS. ALLOCATE: refused it changes nothing, and accepted it empties the rings whose allocation changes,
one after another, each with the sessions on its port and without any other. -/

namespace Sys2Proof.Machine

/-! ### A served frame (R172 to R177) -/

theorem serve_of_takes {α : Type} {pick : Request → Option α} {act : Ctx → α → State → State} {s : State}
    {f : RxFrame} {r : Request} {a : α} (h : s.takes f r) (hpick : pick r = some a) :
    serve pick act s = .next (settle (act (s.ctx f r.op) a (accept f s))) := by
  obtain ⟨hframe, hrequest⟩ := h
  simp only [serve, hframe, hrequest, hpick]

/-- The taking of a frame touches the session of its handle and the uplink alone. -/
theorem accept_eq (f : RxFrame) (s : State) : accept f s =
    { s with
      sessions := s.touched f
      uplink := { s.uplink with
        rxQueue := s.uplink.rxQueue.tail, counters := s.uplink.counters.countOk } } := by
  unfold accept State.touched
  dsimp only; split <;> rfl

theorem accept_port (f : RxFrame) (s : State) (p : PortId) : (accept f s).port p = s.port p := by
  rw [accept_eq]; rfl

theorem touched_attachment (f : RxFrame) (s : State) (k : SlotId) :
    ((accept f s).session k).attachment = (s.session k).attachment := by
  have touched : ∀ x : Session, (x.touchedBy s.sessionLimit f.source).attachment = x.attachment := by
    rintro ⟨g, _ | l⟩ <;> rfl
  rw [accept_eq]
  unfold State.touched
  split
  · rfl
  · exact (congrArg Session.attachment (session_modSession s (slotOf f.slot) k
      (·.touchedBy s.sessionLimit f.source))).trans (by split <;> simp_all)

/-- A frame that is answered, and does nothing else. -/
theorem reply_accept (f : RxFrame) (s : State) (op : Option Byte) (r : Result) (vs : List Byte) :
    reply (s.ctx f op) r vs (accept f s) = s.afterFrame f [f.answer op r vs] := by
  rw [accept_eq]; rfl

theorem accept_settled {s : State} (h : s.settled) (f : RxFrame) : (accept f s).settled := by
  intro k a ha
  rw [touched_attachment] at ha
  rw [accept_port]
  exact h k a ha

theorem settle_reply_of_settled {s : State} (h : s.settled) (c : Ctx) (r : Result) (vs : List Byte) :
    settle (reply c r vs s) = reply c r vs s :=
  settle_of_settled (s := reply c r vs s) h

theorem serveManage_of_takesManage {α : Type} {isWrite : Bool} {pick : Manage → Option α}
    {act : Ctx → α → State → State} {s : State} {f : RxFrame} {op : Byte} {m : Manage} {a : α}
    (h : s.takesManage f op m) (hpick : pick m = some a) :
    serveManage isWrite pick act s = .next (settle (act (s.ctx f (some op)) a (accept f s))) := by
  obtain ⟨htakes, hright, hsaving⟩ := h
  have right : ((accept f s).stationOf (s.ctx f (some op))).rights.manage = true := by
    rw [accept_eq]; exact hright
  have saving : (accept f s).saving = none := by rw [accept_eq]; exact hsaving
  unfold serveManage
  rw [serve_of_takes htakes (a := a) hpick]
  simp [managed, Request.op, right, saving]

/-! ### The check of R42 -/

theorem vectorAllowed_iff {s : State} {blocks : List Nat} (hlen : blocks.length = 32) :
    s.vectorAllowed blocks = true ↔ (∀ b ∈ blocks, b ≤ 64) ∧ blocks.sum ≤ 512 ∧
      ∀ p : PortId, (s.port p).state ≠ .disabled → blocks[p.val]? ≠ some 0 := by
  have entry : ∀ p : PortId, blocks.getD p.val 0 = 0 ↔ blocks[p.val]? = some 0 := fun p => by
    have : p.val < blocks.length := by omega
    simp [this]
  simp only [State.vectorAllowed, hlen, beq_self_eq_true, Bool.true_and, Bool.and_eq_true,
    List.all_eq_true, decide_eq_true_eq, Bool.or_eq_true, beq_iff_eq, bne_iff_ne, ne_eq, entry,
    and_assoc, or_iff_not_imp_left]
  exact and_congr_right fun _ => and_congr_right fun _ =>
    ⟨fun h p => h p (List.mem_finRange p), fun h p _ => h p⟩

theorem execAllocate_eq {s : State} {f : RxFrame} {op : Byte} {blocks : List Nat}
    (h : s.takesManage f op (.allocate blocks)) : exec .allocate s =
      .next (settle (serveAllocate (s.ctx f (some op)) blocks (accept f s))) :=
  serveManage_of_takesManage h rfl

theorem vectorAllowed_accept (s : State) (f : RxFrame) (blocks : List Nat) :
    (accept f s).vectorAllowed blocks = s.vectorAllowed blocks := by
  simp only [State.vectorAllowed, accept_port]

/-! ### What stands on one port -/

/-- The fields of an attachment that a ring's emptying moves (R43). -/
abbrev Attachment.standing (a : Attachment) : Pos × Word32 × MarkNo × Bool :=
  (a.cursor, a.lost, a.nextMark, a.markLoss)

/-- A port, and what of each session attached to it a ring's emptying moves. -/
def State.portView (s : State) (p : PortId) : Port × (SlotId → Option (Pos × Word32 × MarkNo × Bool)) :=
  (s.port p, fun k => (s.session k).attachment.bind fun a => if a.port = p then some a.standing else none)

theorem portView_session {s : State} {p : PortId} {k : SlotId} {a : Attachment}
    (ha : (s.session k).attachment = some a) (hp : a.port = p) :
    (s.portView p).2 k = some a.standing := by
  simp [State.portView, ha, hp]

theorem standing_of_portView {s : State} {p : PortId} {k : SlotId} {v : Pos × Word32 × MarkNo × Bool}
    (h : (s.portView p).2 k = some v) : (s.session k).attachment.map (·.standing) = some v := by
  cases ha : (s.session k).attachment with
  | none => simp [State.portView, ha] at h
  | some a =>
    simp only [State.portView, ha, Option.bind_some, Option.ite_none_right_eq_some, Option.some.injEq] at h
    simp [h.2]

theorem gatherTest_standing (a : Attachment) (r : Ring) : (a.gatherTest r).standing = a.standing := by
  rw [gatherTest_eq]

theorem portView_settle (s : State) (p : PortId) : (settle s).portView p = s.portView p := by
  refine Prod.ext rfl (funext fun k => ?_)
  have : ((settle s).session k).attachment =
      (s.session k).attachment.map fun a => a.gatherTest (s.port a.port).ring := by
    simp [settle, State.session, Fin.getElem_fin]
  simp only [State.portView, this, Option.bind_map, Function.comp_def, gatherTest_port, gatherTest_standing]

theorem portView_accept (f : RxFrame) (s : State) (p : PortId) : (accept f s).portView p = s.portView p := by
  simp only [State.portView, accept_port, touched_attachment]

/-- What the emptying of a ring makes of a session on its port (R43, R51). -/
def emptiedStanding (r : Ring) : Pos × Word32 × MarkNo × Bool → Pos × Word32 × MarkNo × Bool
  | (c, lost, n, loss) =>
    let missed := markPrecedes n r.nextMark
    (r.head, satAdd lost (r.head - c).toNat, if missed then r.nextMark else n, missed || loss)

theorem emptied_standing (a : Attachment) (r : Ring) :
    (a.emptied r).standing = emptiedStanding r a.standing := by
  have href : r.emptied.reference = r.nextMark := rfl
  unfold Attachment.emptied Attachment.syncMarks emptiedStanding
  rw [href]
  cases h : markPrecedes a.nextMark r.nextMark <;> simp [Attachment.ringEmptied, Ring.emptied, h]

theorem emptyRing_attachment (q : PortId) (n : Nat) (s : State) : ∃ r, ∀ k : SlotId,
    ((emptyRing q n s).session k).attachment = (s.session k).attachment.map fun a =>
      if a.port = q then (a.emptied (s.port q).ring).gatherTest r else a := by
  have twice : ∃ r, emptyRing q n s = (s.modPort q fun x => { x with
      alloc := n, ring := (s.port q).ring.emptied }).mapAttached q
        fun a => (a.emptied (s.port q).ring).gatherTest r := by
    rw [emptyRing_eq, State.testContent]
    exact ⟨_, mapAttached_twice _ q _ (·.gatherTest _) fun a => syncMarks_port _ _⟩
  obtain ⟨r, hr⟩ := twice
  exact ⟨r, fun k => by rw [hr, mapAttached_session, mapAttachment_attachment, session_modPort]⟩

/-- The emptying of one ring leaves every other port and the sessions on it. -/
theorem portView_emptyRing_ne {p q : PortId} (h : p ≠ q) (n : Nat) (s : State) :
    (emptyRing q n s).portView p = s.portView p := by
  refine Prod.ext (by simp [State.portView, emptyRing_port, h]) (funext fun k => ?_)
  obtain ⟨r, hr⟩ := emptyRing_attachment q n s
  simp only [State.portView, hr, Option.bind_map, Function.comp_def]
  congr 1
  funext a
  by_cases hq : a.port = q
  · have hport : ((a.emptied (s.port q).ring).gatherTest r).port = q := by
      rw [gatherTest_port, Attachment.emptied, syncMarks_port]; exact hq
    rw [if_pos hq, hport, if_neg (Ne.symm h), if_neg (hq ▸ Ne.symm h)]
  · rw [if_neg hq]

theorem portView_emptyRing_same (p : PortId) (n : Nat) (s : State) :
    (emptyRing p n s).portView p =
      ({ s.port p with alloc := n, ring := (s.port p).ring.emptied },
        fun k => ((s.portView p).2 k).map (emptiedStanding (s.port p).ring)) := by
  refine Prod.ext (by simp [State.portView, emptyRing_port]) (funext fun k => ?_)
  obtain ⟨r, hr⟩ := emptyRing_attachment p n s
  simp only [State.portView, hr, Option.bind_map, Option.map_bind, Function.comp_def]
  congr 1
  funext a
  by_cases hp : a.port = p
  · have hport : ((a.emptied (s.port p).ring).gatherTest r).port = p := by
      rw [gatherTest_port, Attachment.emptied, syncMarks_port]; exact hp
    rw [if_pos hp, if_pos hp, hport, if_pos rfl, gatherTest_standing, emptied_standing]; rfl
  · rw [if_neg hp, if_neg hp, Option.map_none]

/-- Of a repetition over different rows, what only one row's turn changes is as that turn leaves it. -/
theorem forEach_reads_one {α β : Type} {g : State → β} {f : α → State → State} {x : α} {xs : List α}
    (hnodup : xs.Nodup) (hx : x ∈ xs) (hother : ∀ y, y ≠ x → ∀ s, g (f y s) = g s) (s : State) :
    ∃ s', g s' = g s ∧ g (forEach xs f s) = g (f x s') := by
  obtain ⟨before, after, rfl⟩ := List.append_of_mem hx
  rw [List.nodup_middle, List.nodup_cons, List.mem_append, not_or] at hnodup
  obtain ⟨⟨hbefore, hafter⟩, -⟩ := hnodup
  have keep : ∀ (ys : List α) (t : State), x ∉ ys → g (forEach ys f t) = g t := fun ys t hys =>
    forEach_keeps (fun u => g u = g t)
      (fun y hy u hu => (hother y (fun e => hys (e ▸ hy)) u).trans hu) rfl
  refine ⟨forEach before f s, keep before s hbefore, ?_⟩
  rw [forEach_append, forEach_cons]
  exact keep after _ hafter

/-- An accepted vector empties the ring of a port whose allocation changes, and leaves the others (R43). -/
theorem portView_applyVector (blocks : List Nat) (s : State) (p : PortId) :
    (applyVector blocks s).portView p =
      if blocks.getD p.val 0 = (s.port p).alloc then s.portView p
      else
        ({ s.port p with alloc := blocks.getD p.val 0, ring := (s.port p).ring.emptied },
          fun k => ((s.portView p).2 k).map (emptiedStanding (s.port p).ring)) := by
  obtain ⟨s', hs', h⟩ := forEach_reads_one (g := (State.portView · p)) (List.nodup_finRange 32)
    (List.mem_finRange p)
    (f := fun q t => if blocks.getD q.val 0 = (t.port q).alloc then t
      else emptyRing q (blocks.getD q.val 0) t)
    (fun q hq t => by
      split
      · rfl
      · exact portView_emptyRing_ne (Ne.symm hq) _ t) s
  have hport : s'.port p = s.port p := congrArg Prod.fst hs'
  rw [applyVector, allPorts, h]
  simp only [hport]
  split
  · exact hs'
  · rw [portView_emptyRing_same, hport, hs']

/-! ### ALLOCATE (R42, R43) -/

theorem applyVector_replies (blocks : List Nat) (s : State) :
    (applyVector blocks s).uplink.replies = s.uplink.replies := by
  have h := applyVector_configuration blocks s
  simp only [State.configuration, Prod.mk.injEq] at h
  obtain ⟨-, -, ⟨-, -, -, h⟩, -⟩ := h
  exact h

/-- Settles O55: the check is that of R42; what a port and its sessions come to is what the port's own turn
of the repetition makes of them. -/
theorem allocateEmptiesTheChangedRings : Obligations.AllocateEmptiesTheChangedRings := by
  intro s f op blocks hlen htakes allowed
  have hallowed : (accept f s).vectorAllowed blocks = true ↔ allowed := by
    rw [vectorAllowed_accept, vectorAllowed_iff hlen]
  rw [execAllocate_eq htakes]
  refine ⟨fun hs hrefused => ?_, fun haccepted => ⟨_, rfl, ?_, fun p b hb => ?_⟩⟩
  · rw [serveAllocate, if_neg (mt hallowed.1 hrefused), settle_reply_of_settled (accept_settled hs f),
      reply_accept]
  · rw [serveAllocate, if_pos (hallowed.2 haccepted)]
    show (applyVector blocks (accept f s)).uplink.replies ++ _ = _
    rw [applyVector_replies, accept_eq]; rfl
  · have hview := portView_applyVector blocks (accept f s) p
    rw [portView_accept, accept_port, List.getD_eq_getElem?_getD, hb, Option.getD_some] at hview
    rw [serveAllocate, if_pos (hallowed.2 haccepted)]
    generalize ht : settle (reply (s.ctx f (some op)) .ok [] (applyVector blocks (accept f s))) = t
    have hview' : t.portView p = (applyVector blocks (accept f s)).portView p := by
      rw [← ht, portView_settle]; rfl
    rw [hview] at hview'
    refine ⟨fun hsame => ?_, fun hchanged => ?_⟩
    · rw [if_pos hsame] at hview'
      refine ⟨congrArg Prod.fst hview', fun k a ha hp => standing_of_portView (p := p) ?_⟩
      rw [hview', portView_session ha hp]
    · rw [if_neg hchanged] at hview'
      refine ⟨congrArg Prod.fst hview', fun k a ha hp => standing_of_portView (p := p) ?_⟩
      rw [hview']
      exact congrArg (Option.map _) (portView_session ha hp)

end Sys2Proof.Machine
end

section
/-! PROOFS. Session records: what neither a mark nor the content test changes of them, and what the
operations of the writer, of the wait list and of the closing procedure make of them and of the ports. -/

namespace Sys2Proof.Machine

/-! ### What a mark and the content test leave of a session record -/

/-- The fields of an attachment that neither a mark nor the content test changes (R49, R51, R90): all but
the next-mark number, the mark-loss flag and the gather timer. -/
def Attachment.unmarked (a : Attachment) : Attachment :=
  { a with nextMark := 0, markLoss := false, gather := .stopped }

/-- A session record but for what a mark and the content test change of its attachment. -/
def State.record (s : State) (k : SlotId) : Session := (s.session k).mapAttachment Attachment.unmarked

theorem unmarked_of_unmoved {a b : Attachment} (h : a.unmoved = b.unmoved) (hc : a.cursor = b.cursor)
    (hl : a.lost = b.lost) : a.unmarked = b.unmarked := by
  cases a; cases b
  simp only [Attachment.unmoved, Attachment.mk.injEq] at h
  simp_all [Attachment.unmarked]

theorem gatherTest_unmarked (a : Attachment) (r : Ring) : (a.gatherTest r).unmarked = a.unmarked := by
  rw [gatherTest_eq]; rfl

theorem mapAttachment_mapAttachment (f g : Attachment → Attachment) (x : Session) :
    (x.mapAttachment f).mapAttachment g = x.mapAttachment fun a => g (f a) := by
  rcases x with ⟨n, _ | l⟩
  · rfl
  · simp [Session.mapAttachment, Function.comp_def]

theorem mapAttachment_congr {f g : Attachment → Attachment} {x : Session}
    (h : ∀ a ∈ x.attachment, f a = g a) : x.mapAttachment f = x.mapAttachment g := by
  rcases x with ⟨n, _ | ⟨e, rank, peer, idle, _ | a⟩⟩
  · rfl
  · rfl
  · simp [Session.mapAttachment, h a rfl]

/-- What a reading of an attachment that rests on its unmarked fields gives, the record gives. -/
theorem map_record_attachment {α : Type} {g : Attachment → α} (s : State) (k : SlotId)
    (hg : ∀ a, g a.unmarked = g a := by exact fun _ => rfl) :
    (s.record k).attachment.map g = (s.session k).attachment.map g := by
  simp [State.record, Function.comp_def, hg]

theorem flagsOf_eq_record (s : State) (k : SlotId) :
    s.flagsOf k = (s.record k).attachment.map (·.flags) := (map_record_attachment s k).symm

@[simp] theorem record_generation (s : State) (k : SlotId) :
    (s.record k).generation = (s.session k).generation := rfl

@[simp] theorem record_live_eq_none (s : State) (k : SlotId) :
    (s.record k).live = none ↔ (s.session k).live = none := by
  simp [State.record, Session.mapAttachment]

theorem session_of_record_free {s : State} {k : SlotId} {g : Byte} (h : s.record k = ⟨g, none⟩) :
    s.session k = ⟨g, none⟩ := by
  have hlive : (s.session k).live = none := by rw [← record_live_eq_none, h]
  have hgen : (s.session k).generation = g := by rw [← record_generation, h]
  cases hx : s.session k; simp_all

theorem record_eq_of_sessions {s t : State} (h : t.sessions = s.sessions) : t.record = s.record := by
  funext k
  simp only [State.record, State.session, h]

@[simp] theorem modPort_record (s : State) (p : PortId) (f : Port → Port) :
    (s.modPort p f).record = s.record := rfl

@[simp] theorem raise_record (c : Cause) (p : Option PortId) (arg : Word16) (s : State) :
    (raise c p arg s).record = s.record := record_eq_of_sessions (raise_sessions c p arg s)

theorem modAttachment_record (s : State) (k j : SlotId) {f : Attachment → Attachment}
    (hf : ∀ a, (f a).unmarked = f a.unmarked := by exact fun _ => rfl) :
    (s.modAttachment k f).record j = if j = k then (s.record j).mapAttachment f else s.record j := by
  unfold State.record
  rw [modAttachment_session]
  by_cases h : k = j
  · simp [h, mapAttachment_mapAttachment, hf]
  · simp [h, Ne.symm h]

@[simp] theorem writeMark_record (p : PortId) (kind : MarkKind) (arg : Word16) (s : State) :
    (writeMark p kind arg s).record = s.record := by
  obtain ⟨f, hf, h⟩ := writeMark_eq p kind arg s
  funext k
  rw [h, State.record, mapAttached_session, mapAttachment_mapAttachment]
  refine mapAttachment_congr fun a _ => ?_
  obtain ⟨-, hmoved, hcursor, hlost⟩ := hf a
  split
  · exact unmarked_of_unmoved hmoved hcursor hlost
  · rfl

@[simp] theorem settle_record (s : State) : (settle s).record = s.record := by
  funext k
  simp only [State.record, settle, State.session, Fin.getElem_fin, tabMap_get, mapAttachment_mapAttachment]
  exact mapAttachment_congr fun a _ => gatherTest_unmarked a _

/-- A reply is queued behind the others (R174). -/
theorem reply_replies (s : State) (f : RxFrame) (op : Option Byte) (r : Result) (vs : List Byte) (u : State) :
    (reply (s.ctx f op) r vs u).uplink.replies = u.uplink.replies ++ [f.answer op r vs] := rfl

@[simp] theorem reply_record (c : Ctx) (r : Result) (vs : List Byte) (s : State) :
    (reply c r vs s).record = s.record := rfl

theorem writeMark_notice (p : PortId) (kind : MarkKind) (arg : Word16) (s : State) :
    (writeMark p kind arg s).notice = s.notice := by
  obtain ⟨f, -, h⟩ := writeMark_eq p kind arg s
  rw [h]; rfl

/-! ### The writer and the wait list -/

/-- The flagging of a session that moves up or down a wait list (R73, R74). -/
def Attachment.waitFlagged (a : Attachment) : Attachment :=
  { a with flags := { a.flags with waitPlace := true } }

theorem forEach_setWaitPlace_ports (xs : List SlotId) (s : State) :
    (forEach xs setWaitPlace s).ports = s.ports :=
  forEach_reads State.ports (f := setWaitPlace) (fun _ _ => rfl) xs s

theorem forEach_setWaitPlace_record (xs : List SlotId) (s : State) (j : SlotId) :
    (forEach xs setWaitPlace s).record j =
      if j ∈ xs then (s.record j).mapAttachment Attachment.waitFlagged else s.record j := by
  have step : ∀ (k : SlotId) (u : State), (setWaitPlace k u).record j =
      if j = k then (u.record j).mapAttachment Attachment.waitFlagged else u.record j :=
    fun k u => modAttachment_record u k j
  induction xs generalizing s with
  | nil => simp
  | cons k xs ih =>
    rw [forEach_cons, ih, step]
    by_cases hk : j = k
    · subst hk
      simp only [↓reduceIte, mapAttachment_mapAttachment, List.mem_cons, true_or]
      split <;> rfl
    · simp [hk]

theorem leaveWaitList_of_not_mem {s : State} {p : PortId} {k : SlotId} (h : k ∉ (s.port p).waitList) :
    leaveWaitList p k s = s := if_neg h

theorem leaveWaitList_port (p : PortId) (k : SlotId) (s : State) (j : PortId) :
    (leaveWaitList p k s).port j =
      if j = p then { s.port p with waitList := (s.port p).waitList.erase k } else s.port j := by
  by_cases hk : k ∈ (s.port p).waitList
  · simp only [leaveWaitList, if_pos hk]
    rw [State.port, forEach_setWaitPlace_ports]
    exact port_modPort s p j _
  · rw [leaveWaitList_of_not_mem hk, List.erase_of_not_mem hk]
    split
    next hj => rw [hj]
    · rfl

/-- The sessions below one on a list. -/
def belowIn (k : SlotId) (w : List SlotId) : List SlotId := w.drop (w.idxOf k + 1)

theorem leaveWaitList_record (p : PortId) (k : SlotId) (s : State) (j : SlotId) :
    (leaveWaitList p k s).record j =
      if j ∈ belowIn k (s.port p).waitList then (s.record j).mapAttachment Attachment.waitFlagged
      else s.record j := by
  by_cases hk : k ∈ (s.port p).waitList
  · simp only [leaveWaitList, if_pos hk]
    rw [forEach_setWaitPlace_record]; rfl
  · have : belowIn k (s.port p).waitList = [] := by
      simp [belowIn, List.idxOf_eq_length hk]
    rw [leaveWaitList_of_not_mem hk, this, if_neg List.not_mem_nil]

theorem writerChange_port (p : PortId) (old new : Option SlotId) (s : State) (j : PortId) :
    (writerChange p old new s).port j =
      if j = p then { s.port p with
        queue := [], writer := new, ring := (s.port p).ring.addMark .writer (writerArgument new) }
      else s.port j := by
  unfold writerChange
  by_cases hj : j = p
  · subst hj; cases old <;> cases new <;> simp
  · cases old <;> cases new <;> simp [hj]

@[simp] theorem modPort_freshWriterIdle (s : State) (p : PortId) (f : Port → Port) :
    (s.modPort p f).freshWriterIdle = s.freshWriterIdle := rfl

@[simp] theorem modAttachment_freshWriterIdle (s : State) (k : SlotId) (f : Attachment → Attachment) :
    (s.modAttachment k f).freshWriterIdle = s.freshWriterIdle := rfl

theorem writerChange_record (p : PortId) (old new : Option SlotId) (s : State) (k : SlotId) :
    (writerChange p old new s).record k =
      let ended := if old = some k then (s.record k).mapAttachment Attachment.stopWriting else s.record k
      if new = some k then ended.mapAttachment (Attachment.startWriting s.freshWriterIdle) else ended := by
  have stop : ∀ (a : SlotId) (u : State), (u.modAttachment a Attachment.stopWriting).record k =
      if k = a then (u.record k).mapAttachment Attachment.stopWriting else u.record k :=
    fun a u => modAttachment_record u a k
  have start : ∀ (b : SlotId) (u : State) (i : Option Nat),
      (u.modAttachment b (Attachment.startWriting i)).record k =
        if k = b then (u.record k).mapAttachment (Attachment.startWriting i) else u.record k :=
    fun b u i => modAttachment_record u b k
  unfold writerChange
  dsimp only
  rw [raise_record, writeMark_record]
  cases old with
  | none =>
    cases new with
    | none => simp
    | some b => simp [start, eq_comm (a := k)]
  | some a =>
    cases new with
    | none => simp [stop, eq_comm (a := k)]
    | some b => simp [start, stop, eq_comm (a := k)]

theorem releaseWriter_of_nil {p : PortId} {s : State} (h : (s.port p).waitList = []) :
    releaseWriter p s = writerChange p (s.port p).writer none s := by
  simp only [releaseWriter, h]

theorem releaseWriter_of_cons {p : PortId} {s : State} {k : SlotId} {w : List SlotId}
    (h : (s.port p).waitList = k :: w) :
    releaseWriter p s = writerChange p (s.port p).writer (some k) (leaveWaitList p k s) := by
  simp only [releaseWriter, h]

theorem releaseWriter_port (p : PortId) (s : State) (j : PortId) :
    (releaseWriter p s).port j =
      if j = p then { s.port p with
        queue := []
        writer := (s.port p).waitList.head?
        waitList := (s.port p).waitList.tail
        ring := (s.port p).ring.addMark .writer (writerArgument (s.port p).waitList.head?) }
      else s.port j := by
  cases hw : (s.port p).waitList with
  | nil =>
    rw [releaseWriter_of_nil hw, writerChange_port]
    by_cases hj : j = p <;> simp [hw, hj]
  | cons h w =>
    rw [releaseWriter_of_cons hw, writerChange_port]
    by_cases hj : j = p <;> simp [leaveWaitList_port, hw, hj]

theorem belowIn_head (h : SlotId) (w : List SlotId) : belowIn h (h :: w) = w := by simp [belowIn]

theorem leaveWaitList_freshWriterIdle (p : PortId) (k : SlotId) (s : State) :
    (leaveWaitList p k s).freshWriterIdle = s.freshWriterIdle := by
  have h := leaveWaitList_configuration p k s
  simp only [State.configuration, Prod.mk.injEq] at h
  obtain ⟨-, -, -, -, hlimit⟩ := h
  simp only [State.freshWriterIdle, hlimit]

theorem releaseWriter_record (p : PortId) (s : State) (k : SlotId) :
    (releaseWriter p s).record k =
      let moved := if k ∈ (s.port p).waitList.tail
        then (s.record k).mapAttachment Attachment.waitFlagged else s.record k
      let ended := if (s.port p).writer = some k
        then moved.mapAttachment Attachment.stopWriting else moved
      if (s.port p).waitList.head? = some k
        then ended.mapAttachment (Attachment.startWriting s.freshWriterIdle) else ended := by
  cases hw : (s.port p).waitList with
  | nil => rw [releaseWriter_of_nil hw, writerChange_record]; simp
  | cons h w =>
    rw [releaseWriter_of_cons hw, writerChange_record]
    simp only [leaveWaitList_record, hw, belowIn_head, leaveWaitList_freshWriterIdle]
    rfl

theorem joinWaitList_port (p : PortId) (k : SlotId) (s : State) (j : PortId) :
    (joinWaitList p k s).port j =
      if j = p then { s.port p with
        waitList := (s.port p).waitList.takeWhile (fun i => s.rankOf k ≤ s.rankOf i) ++
          k :: (s.port p).waitList.dropWhile (fun i => s.rankOf k ≤ s.rankOf i) }
      else s.port j := by
  unfold joinWaitList
  dsimp only
  rw [State.port, forEach_setWaitPlace_ports]
  exact port_modPort s p j _

theorem joinWaitList_record (p : PortId) (k : SlotId) (s : State) (j : SlotId) :
    (joinWaitList p k s).record j =
      if j ∈ (s.port p).waitList.dropWhile (fun i => s.rankOf k ≤ s.rankOf i)
      then (s.record j).mapAttachment Attachment.waitFlagged else s.record j := by
  unfold joinWaitList
  dsimp only
  rw [forEach_setWaitPlace_record]; rfl

/-! ### What session operations leave -/

@[simp] theorem modSession_outside (s : State) (k : SlotId) (f : Session → Session) :
    (s.modSession k f).outside = s.outside := rfl

theorem forEach_setWaitPlace_outside (xs : List SlotId) (s : State) :
    (forEach xs setWaitPlace s).outside = s.outside :=
  forEach_reads State.outside (f := setWaitPlace) (fun _ _ => rfl) xs s

@[simp] theorem leaveWaitList_outside (p : PortId) (k : SlotId) (s : State) :
    (leaveWaitList p k s).outside = s.outside := by
  unfold leaveWaitList; dsimp only; split
  · exact forEach_setWaitPlace_outside _ _
  · rfl

@[simp] theorem joinWaitList_outside (p : PortId) (k : SlotId) (s : State) :
    (joinWaitList p k s).outside = s.outside := forEach_setWaitPlace_outside _ _

@[simp] theorem writerChange_outside (p : PortId) (old new : Option SlotId) (s : State) :
    (writerChange p old new s).outside = s.outside := by
  cases old <;> cases new <;> simp [writerChange]

@[simp] theorem releaseWriter_outside (p : PortId) (s : State) :
    (releaseWriter p s).outside = s.outside := by
  unfold releaseWriter; dsimp only; split <;> simp

@[simp] theorem preempt_outside (p : PortId) (w k : SlotId) (s : State) :
    (preempt p w k s).outside = s.outside := by
  simp [preempt, setPreempted]

@[simp] theorem leavePort_outside (k : SlotId) (s : State) : (leavePort k s).outside = s.outside := by
  unfold leavePort; split
  · rfl
  · dsimp only; split <;> simp

@[simp] theorem closeSession_outside (k : SlotId) (s : State) :
    (closeSession k s).outside = s.outside := by
  simp [closeSession]

@[simp] theorem detachSession_outside (k : SlotId) (s : State) :
    (detachSession k s).outside = s.outside := by
  simp [detachSession]

theorem leaveWaitList_notice (p : PortId) (k : SlotId) (s : State) :
    (leaveWaitList p k s).notice = s.notice := by
  unfold leaveWaitList; dsimp only; split
  · exact forEach_reads State.notice (f := setWaitPlace) (fun _ _ => rfl) _ _
  · rfl

theorem joinWaitList_notice (p : PortId) (k : SlotId) (s : State) :
    (joinWaitList p k s).notice = s.notice :=
  forEach_reads State.notice (f := setWaitPlace) (fun _ _ => rfl) _ _

/-! ### Seats -/

/-- The entry and the rank of a session that is not FREE, and the port it is attached to. -/
def Session.seat (x : Session) : Option (StationId × Nat × Option PortId) :=
  x.live.map fun l => (l.station, l.rank, l.attachment.map (·.port))

theorem seat_mapAttachment {f : Attachment → Attachment} (hf : ∀ a, (f a).port = a.port) (x : Session) :
    (x.mapAttachment f).seat = x.seat := by
  simp [Session.seat, Session.mapAttachment, Function.comp_def, hf]

@[simp] theorem record_seat (s : State) (k : SlotId) : (s.record k).seat = (s.session k).seat :=
  seat_mapAttachment (f := Attachment.unmarked) (fun _ => rfl) _

@[simp] theorem seat_waitFlagged (x : Session) : (x.mapAttachment Attachment.waitFlagged).seat = x.seat :=
  seat_mapAttachment (f := Attachment.waitFlagged) (fun _ => rfl) x

@[simp] theorem seat_stopWriting (x : Session) : (x.mapAttachment Attachment.stopWriting).seat = x.seat :=
  seat_mapAttachment (f := Attachment.stopWriting) (fun _ => rfl) x

@[simp] theorem seat_startWriting (x : Session) (idle : Option Nat) :
    (x.mapAttachment (Attachment.startWriting idle)).seat = x.seat :=
  seat_mapAttachment (f := Attachment.startWriting idle) (fun _ => rfl) x

theorem attachedTo_iff {s : State} {k : SlotId} {p : PortId} :
    s.attachedTo k p = true ↔ ∃ a, (s.session k).attachment = some a ∧ a.port = p := by
  unfold State.attachedTo
  cases (s.session k).attachment <;> simp

theorem attachedTo_eq_seat (s : State) (k : SlotId) (p : PortId) :
    s.attachedTo k p = ((s.session k).seat.bind (·.2.2) == some p) := by
  unfold State.attachedTo Session.seat Session.attachment
  rcases (s.session k).live with _ | ⟨e, rank, peer, idle, _ | a⟩ <;> rfl

theorem rankOf_eq_seat (s : State) (k : SlotId) :
    s.rankOf k = ((s.session k).seat.map (·.2.1)).getD 0 := by
  unfold State.rankOf Session.seat
  rcases (s.session k).live with _ | l <;> rfl

theorem ofStation_eq_seat (x : Session) (e : StationId) :
    x.ofStation e = (x.seat.map (·.1) == some e) := by
  unfold Session.ofStation Session.seat
  rcases x.live with _ | l <;> rfl

/-- What only the fields of attached sessions, and not their ports, have changed in: every slot has its
generation and its seat. -/
def SeatsKept (s t : State) : Prop :=
  ∀ k, (t.session k).generation = (s.session k).generation ∧ (t.session k).seat = (s.session k).seat

theorem SeatsKept.of_record {s t : State}
    (h : ∀ k, (t.record k).generation = (s.record k).generation ∧ (t.record k).seat = (s.record k).seat) :
    SeatsKept s t := fun k => by
  simpa only [record_generation, record_seat] using h k

theorem seat_eq_none_iff {x : Session} : x.seat = none ↔ x.live = none := by
  simp [Session.seat]

theorem SeatsKept.free_iff {s t : State} (h : SeatsKept s t) (k : SlotId) :
    (t.session k).live = none ↔ (s.session k).live = none := by
  rw [← seat_eq_none_iff, ← seat_eq_none_iff, (h k).2]

theorem SeatsKept.trans {s t u : State} (h : SeatsKept s t) (g : SeatsKept t u) : SeatsKept s u :=
  fun k => ⟨(g k).1.trans (h k).1, (g k).2.trans (h k).2⟩

protected theorem SeatsKept.refl (s : State) : SeatsKept s s := fun _ => ⟨rfl, rfl⟩

theorem leaveWaitList_seatsKept (p : PortId) (k : SlotId) (s : State) :
    SeatsKept s (leaveWaitList p k s) := by
  refine .of_record fun j => ?_
  rw [leaveWaitList_record]; split <;> simp

theorem joinWaitList_seatsKept (p : PortId) (k : SlotId) (s : State) :
    SeatsKept s (joinWaitList p k s) := by
  refine .of_record fun j => ?_
  rw [joinWaitList_record]; split <;> simp

theorem writerChange_seatsKept (p : PortId) (old new : Option SlotId) (s : State) :
    SeatsKept s (writerChange p old new s) := by
  refine .of_record fun j => ?_
  rw [writerChange_record]; dsimp only; split <;> split <;> simp

theorem releaseWriter_seatsKept (p : PortId) (s : State) : SeatsKept s (releaseWriter p s) := by
  unfold releaseWriter; dsimp only; split
  · exact (leaveWaitList_seatsKept p _ s).trans (writerChange_seatsKept _ _ _ _)
  · exact writerChange_seatsKept _ _ _ _

theorem leavePort_seatsKept (k : SlotId) (s : State) : SeatsKept s (leavePort k s) := by
  unfold leavePort; split
  · exact .refl s
  · dsimp only; split
    · exact (releaseWriter_seatsKept _ s).trans (leaveWaitList_seatsKept _ _ _)
    · exact leaveWaitList_seatsKept _ _ _

/-! ### The end of an attachment and of a session (R65, R71) -/

section
variable {s : State} {k : SlotId} {p : PortId}

theorem leavePort_of_unattached (h : (s.session k).attachment = none) : leavePort k s = s := by
  simp only [leavePort, h]

/-- A session that is on no list and no writer leaves nothing behind. -/
theorem leavePort_of_unlisted
    (h : ∀ a ∈ (s.session k).attachment, (s.port a.port).writer ≠ some k ∧ k ∉ (s.port a.port).waitList) :
    leavePort k s = s := by
  cases ha : (s.session k).attachment with
  | none => exact leavePort_of_unattached ha
  | some a =>
    obtain ⟨hwriter, hlist⟩ := h a ha
    simp only [leavePort, ha, if_neg hwriter, leaveWaitList_of_not_mem hlist]

theorem leavePort_of_waiting (hs : s.writersSound) (h : k ∈ (s.port p).waitList) :
    leavePort k s = leaveWaitList p k s := by
  obtain ⟨-, hwaiting, -⟩ := hs p
  obtain ⟨hon, hwriter⟩ := hwaiting k h
  obtain ⟨a, ha, rfl⟩ := attachedTo_iff.1 hon
  simp only [leavePort, ha, if_neg hwriter]

theorem leavePort_of_writer (hs : s.writersSound) (h : (s.port p).writer = some k) :
    leavePort k s = releaseWriter p s := by
  obtain ⟨hwriter, hwaiting, -⟩ := hs p
  obtain ⟨a, ha, rfl⟩ := attachedTo_iff.1 (hwriter k h)
  have hoff : k ∉ ((releaseWriter a.port s).port a.port).waitList := by
    rw [releaseWriter_port, if_pos rfl]
    exact fun hk => (hwaiting k (List.mem_of_mem_tail hk)).2 h
  simp only [leavePort, ha, if_pos h, leaveWaitList_of_not_mem hoff]

end

theorem closeSession_session (k : SlotId) (s : State) (j : SlotId) :
    (closeSession k s).session j =
      if j = k then ⟨(s.session k).generation, none⟩ else (leavePort k s).session j := by
  rw [closeSession, session_modSession, (leavePort_seatsKept k s k).1]

theorem detachSession_session (k : SlotId) (s : State) (j : SlotId) :
    (detachSession k s).session j =
      if j = k then ((leavePort k s).session k).detached else (leavePort k s).session j := by
  rw [detachSession, session_modSession]

/-! ### The cause of a writer change (R78, R161) -/

/-- The first record of the notice queue stays through the raise of another cause. -/
theorem firstNotice_raise {s : State} {c c' : Cause} {x : Option PortId × Word16 × Pos × Nat}
    (h : s.firstNotice = some (c', x)) (hc : c' ≠ c) (p : Option PortId) (arg : Word16) :
    (raise c p arg s).firstNotice = some (c', x) := by
  obtain ⟨n, hn, hx⟩ := Option.map_eq_some_iff.1 h
  obtain ⟨rest, hq⟩ : ∃ rest, s.notice.queue = n :: rest := List.head?_eq_some_iff.1 hn
  have hcause : n.cause = c' := congrArg Prod.fst hx
  have hkey : n.sameKey (s.noticeOf c p arg) = false := by
    rw [Bool.eq_false_iff, ne_eq, sameKey_noticeOf_iff]
    exact fun ⟨h, _⟩ => hc (hcause.symm.trans h)
  have hhead : (raise c p arg s).notice.queue.head? = some n := by
    unfold raise NoticeUnit.take
    split
    · split
      · simp [hq, hkey]
      · split <;> simp [hq]
    · exact hn
  rw [State.firstNotice, hhead]
  exact congrArg some hx

/-- A writer change raises its cause in a state with the notice unit and the ring's head of the state
before it. -/
theorem writerChange_eq_raise (p : PortId) (old new : Option SlotId) (s : State) :
    ∃ u : State, writerChange p old new s = raise .writerChange (some p) (writerArgument new) u ∧
      u.notice = s.notice ∧ (u.port p).ring.head = (s.port p).ring.head := by
  refine ⟨_, rfl, ?_, ?_⟩
  · rw [writeMark_notice]
    cases old <;> cases new <;> rfl
  · cases old <;> cases new <;> simp

theorem writerChange_noticed (p : PortId) (old new : Option SlotId) (s : State) :
    s.writerChangeNoticed (writerChange p old new s) p new := by
  intro hmask hqueue
  obtain ⟨u, hu, hnotice, hhead⟩ := writerChange_eq_raise p old new s
  have hadmitted : admitted u.notice.mask .writerChange = true := by
    rw [admitted_iff, hnotice]; exact .inr hmask
  rw [hu, raise_admitted hadmitted, take_queues (by simp [hnotice, hqueue]) (by simp [hnotice, hqueue])]
  simp [State.firstNotice, hnotice, hqueue, State.noticeOf, hhead]

end Sys2Proof.Machine
end

section
/-! PROOFS. What every operation keeps of the seats: sound writers and wait lists, bounded keystroke queues,
counted sessions, and the slots that are FREE. Each rule reads: what is kept up to a state is kept by one
operation more. -/

namespace Sys2Proof.Machine

/-! ### Soundness rests on the seats, the keyboards and the Station Table -/

/-- The writer and the wait list of a port stay, and its keystroke queue grows no longer. -/
abbrev Port.keepsKeyboard (q q' : Port) : Prop :=
  q'.writer = q.writer ∧ q'.waitList = q.waitList ∧ q'.queue.length ≤ q.queue.length

section
variable {s t : State}

theorem SeatsKept.attachedTo (h : SeatsKept s t) : t.attachedTo = s.attachedTo := by
  funext k p
  rw [attachedTo_eq_seat, attachedTo_eq_seat, (h k).2]

theorem SeatsKept.rankOf (h : SeatsKept s t) : t.rankOf = s.rankOf := by
  funext k
  rw [rankOf_eq_seat, rankOf_eq_seat, (h k).2]

theorem waitSound_of_keyboard (h : SeatsKept s t) {p : PortId} (hwriter : (t.port p).writer = (s.port p).writer)
    (hlist : (t.port p).waitList = (s.port p).waitList) (hs : s.waitSound p) : t.waitSound p := by
  simpa only [State.waitSound, State.onPort, hwriter, hlist, h.attachedTo, h.rankOf] using hs

theorem queue_of_keepsKeyboard {q q' : Port} (h : q.keepsKeyboard q')
    (hq : q.queue.length ≤ Config.queueItems ∧ (q.writer = none → q.queue = [])) :
    q'.queue.length ≤ Config.queueItems ∧ (q'.writer = none → q'.queue = []) := by
  obtain ⟨hwriter, -, hlen⟩ := h
  refine ⟨Nat.le_trans hlen hq.1, fun hnone => List.eq_nil_of_length_eq_zero ?_⟩
  have := hq.2 (hwriter.symm.trans hnone)
  simp only [this, List.length_nil] at hlen
  omega

/-- The entry and the rank of a session that is not FREE. -/
def Session.holder (x : Session) : Option (StationId × Nat) := x.live.map fun l => (l.station, l.rank)

theorem holder_eq_seat (x : Session) : x.holder = x.seat.map fun y => (y.1, y.2.1) := by
  simp [Session.holder, Session.seat, Function.comp_def]

theorem ofStation_eq_holder (x : Session) (e : StationId) : x.ofStation e = (x.holder.map (·.1) == some e) := by
  unfold Session.ofStation Session.holder
  rcases x.live with _ | l <;> rfl

/-- Ending sessions, and leaving the others to their entries, keeps the sessions counted. -/
theorem sessionsCounted_of_holders (hstations : t.stations = s.stations)
    (hcommissioning : t.commissioning = s.commissioning)
    (hholder : ∀ k, (t.session k).holder = none ∨ (t.session k).holder = (s.session k).holder)
    (hs : s.sessionsCounted) : t.sessionsCounted := by
  obtain ⟨hvalid, hcount, hwild⟩ := hs
  have station : t.station = s.station := by funext e; simp only [State.station, hstations]
  have fewer : ∀ e k, (t.session k).ofStation e = true → (s.session k).ofStation e = true := fun e k h => by
    rw [ofStation_eq_holder] at h ⊢
    rcases hholder k with hk | hk
    · simp [hk] at h
    · rwa [← hk]
  refine ⟨fun k l hl => ?_, fun e => ?_, fun h => ?_⟩
  · rcases hholder k with hk | hk
    · simp [Session.holder, Option.mem_def.1 hl] at hk
    · simp only [Session.holder, Option.mem_def.1 hl, Option.map_some] at hk
      obtain ⟨l', hl', heq⟩ := Option.map_eq_some_iff.1 hk.symm
      obtain ⟨hst, hrank⟩ := Prod.mk.inj heq
      rw [station, ← hst, ← hrank]
      exact hvalid k l' hl'
  · rw [station]
    exact Nat.le_trans (List.countP_mono_left fun k _ => fewer e k) (hcount e)
  · rw [station]
    exact hwild (hcommissioning ▸ h)

theorem SeatsKept.session_of_free (h : SeatsKept s t) {k : SlotId} (hk : (s.session k).live = none) :
    t.session k = s.session k := by
  have hlive := (h.free_iff k).2 hk
  have hgen := (h k).1
  cases hs : s.session k
  cases ht : t.session k
  simp_all

end

/-! ### What is kept -/

/-- From s to t: sound writers stay sound, and so do the keystroke queues; the sessions stay within the limits
of their entries; and a slot that is FREE stays as it was. -/
structure KeepsSeats (s t : State) : Prop where
  writers : s.writersSound → t.writersSound
  queues : s.queuesSound → t.queuesSound
  counted : s.sessionsCounted → t.sessionsCounted
  free : ∀ k, (s.session k).live = none → t.session k = s.session k

namespace KeepsSeats
variable {s t u : State}

protected theorem refl (s : State) : KeepsSeats s s := ⟨id, id, id, fun _ _ => rfl⟩

protected theorem trans (h : KeepsSeats s t) (g : KeepsSeats t u) : KeepsSeats s u where
  writers := g.writers ∘ h.writers
  queues := g.queues ∘ h.queues
  counted := g.counted ∘ h.counted
  free k hk := by rw [g.free k (by rw [h.free k hk, hk]), h.free k hk]

/-- The rule for what leaves every session in its seat and every keyboard to its writer. -/
theorem of_seatsKept (hseats : SeatsKept s t) (hports : ∀ p, (s.port p).keepsKeyboard (t.port p))
    (hstations : t.stations = s.stations) (hcommissioning : t.commissioning = s.commissioning) :
    KeepsSeats s t where
  writers hs p := waitSound_of_keyboard hseats (hports p).1 (hports p).2.1 (hs p)
  queues hs p := queue_of_keepsKeyboard (hports p) (hs p)
  counted := sessionsCounted_of_holders hstations hcommissioning fun k => .inr (by
    rw [holder_eq_seat, holder_eq_seat, (hseats k).2])
  free _ hk := hseats.session_of_free hk

/-- A change of other tables keeps the seats. -/
theorem same (h : KeepsSeats s t) (hports : u.ports = t.ports) (hsessions : u.sessions = t.sessions)
    (hstations : u.stations = t.stations) (hcommissioning : u.commissioning = t.commissioning) :
    KeepsSeats s u :=
  h.trans (of_seatsKept (fun k => by simp only [State.session, hsessions]; trivial)
    (fun p => by simp only [Port.keepsKeyboard, State.port, hports, le_refl, and_self])
    hstations hcommissioning)

/-! ### Updates of one row -/

protected theorem ite {c : Prop} [Decidable c] (ht : KeepsSeats s t) (hu : KeepsSeats s u) :
    KeepsSeats s (if c then t else u) := by
  split
  · exact ht
  · exact hu

protected theorem forEach {α : Type} {xs : List α} {f : α → State → State} (h : KeepsSeats s t)
    (hf : ∀ x u, KeepsSeats s u → KeepsSeats s (f x u)) : KeepsSeats s (forEach xs f t) :=
  forEach_keeps (KeepsSeats s) (fun x _ u => hf x u) h

/-- Where every attachment keeps its port, the session keeps its seat. -/
theorem mapSessions (h : KeepsSeats s t) (hports : u.ports = t.ports) (hstations : u.stations = t.stations)
    (hcommissioning : u.commissioning = t.commissioning) (hseats : SeatsKept t u) : KeepsSeats s u :=
  h.trans (of_seatsKept hseats
    (fun p => by simp only [Port.keepsKeyboard, State.port, hports, le_refl, and_self])
    hstations hcommissioning)

protected theorem modPort (h : KeepsSeats s t) {p : PortId} {f : Port → Port}
    (hf : ∀ q : Port, q.keepsKeyboard (f q) := by exact fun _ => ⟨rfl, rfl, Nat.le_refl _⟩) :
    KeepsSeats s (t.modPort p f) :=
  h.trans (of_seatsKept (.refl t) (fun j => by
    rw [port_modPort]; split
    next hj => rw [hj]; exact hf _
    · exact ⟨rfl, rfl, Nat.le_refl _⟩) rfl rfl)

protected theorem mapAttached (h : KeepsSeats s t) {p : PortId} {f : Attachment → Attachment}
    (hf : ∀ a, (f a).port = a.port) : KeepsSeats s (t.mapAttached p f) :=
  h.mapSessions rfl rfl rfl fun k => by
    rw [mapAttached_session]
    exact ⟨rfl, seat_mapAttachment (fun a => by split <;> simp [hf]) _⟩

protected theorem modAttachment (h : KeepsSeats s t) {k : SlotId} {f : Attachment → Attachment}
    (hf : ∀ a, (f a).port = a.port := by exact fun _ => rfl) : KeepsSeats s (t.modAttachment k f) :=
  h.mapSessions rfl rfl rfl fun j => by
    rw [modAttachment_session]; split
    · exact ⟨rfl, seat_mapAttachment hf _⟩
    · exact ⟨rfl, rfl⟩

protected theorem settle (h : KeepsSeats s t) : KeepsSeats s (settle t) :=
  h.mapSessions rfl rfl rfl (.of_record fun k => by rw [settle_record]; exact ⟨rfl, rfl⟩)

protected theorem modPattern (h : KeepsSeats s t) {i : PatternId} {f : PatternEntry → PatternEntry} :
    KeepsSeats s (t.modPattern i f) := h.same rfl rfl rfl rfl
protected theorem modComparator (h : KeepsSeats s t) {i : ComparatorId} {f : Comparator → Comparator} :
    KeepsSeats s (t.modComparator i f) := h.same rfl rfl rfl rfl
protected theorem modKeyin (h : KeepsSeats s t) {e : KeyinId} {f : KeyinEntry → KeyinEntry} :
    KeepsSeats s (t.modKeyin e f) := h.same rfl rfl rfl rfl
protected theorem countUplink (h : KeepsSeats s t) {f : UplinkCounters → UplinkCounters} :
    KeepsSeats s (t.countUplink f) := h.same rfl rfl rfl rfl
protected theorem clearWindows (h : KeepsSeats s t) {p : PortId} :
    KeepsSeats s (clearWindows p t) := h.same rfl rfl rfl rfl
protected theorem pushByte (h : KeepsSeats s t) {p : PortId} {b : Byte} :
    KeepsSeats s (t.pushByte p b) := h.same rfl rfl rfl rfl
protected theorem evaluateAll (h : KeepsSeats s t) {p : PortId} {ev : CounterEvent} :
    KeepsSeats s (t.evaluateAll p ev) := h.same rfl rfl rfl rfl
protected theorem makePending (h : KeepsSeats s t) {e : KeyinId} :
    KeepsSeats s (makePending e t) := h.same rfl rfl rfl rfl
protected theorem reply (h : KeepsSeats s t) {c : Ctx} {r : Result} {vs : List Byte} :
    KeepsSeats s (reply c r vs t) := h.same rfl rfl rfl rfl
protected theorem removeFrame (h : KeepsSeats s t) : KeepsSeats s (removeFrame t) :=
  h.same rfl rfl rfl rfl
protected theorem sendFrame (h : KeepsSeats s t) {m : Mac} {d : List Byte} :
    KeepsSeats s (sendFrame m d t) := h.same rfl rfl rfl rfl
protected theorem withUplink (h : KeepsSeats s t) {x : Uplink} : KeepsSeats s { t with uplink := x } :=
  h.same rfl rfl rfl rfl
protected theorem withNotice (h : KeepsSeats s t) {x : NoticeUnit} : KeepsSeats s { t with notice := x } :=
  h.same rfl rfl rfl rfl
protected theorem withSaving (h : KeepsSeats s t) {x : Option (List ImageRecord)} {m : ConfigMemory} :
    KeepsSeats s { t with saving := x, memory := m } := h.same rfl rfl rfl rfl

protected theorem raise (h : KeepsSeats s t) {c : Cause} {p : Option PortId} {arg : Word16} :
    KeepsSeats s (raise c p arg t) := by
  have hout := raise_outside c p arg t
  simp only [State.outside, Prod.mk.injEq] at hout
  exact h.same (by simp) (by simp) hout.1 hout.2.1

/-! ### The three operations on a ring -/

protected theorem writeMark (h : KeepsSeats s t) {p : PortId} {kind : MarkKind} {arg : Word16} :
    KeepsSeats s (writeMark p kind arg t) := by
  obtain ⟨f, hf, e⟩ := writeMark_eq p kind arg t
  rw [e]
  exact h.modPort.mapAttached fun a => (hf a).1

protected theorem storeByte (h : KeepsSeats s t) {p : PortId} {b : Byte} :
    KeepsSeats s (storeByte p b t) := by
  obtain ⟨f, hf, e⟩ := storeByte_eq p b t
  rw [e]
  exact h.modPort.mapAttached fun a => (hf a).1

protected theorem emptyRing (h : KeepsSeats s t) {p : PortId} {n : Nat} :
    KeepsSeats s (emptyRing p n t) :=
  ((h.modPort.mapAttached (f := (·.ringEmptied _)) fun _ => rfl).mapAttached
    (f := (·.syncMarks _)) fun a => syncMarks_port _ a).mapAttached (f := (·.gatherTest _)) fun a =>
      gatherTest_port a _

/-! ### The transmitter and the key-in unit -/

protected theorem startKeyinItem (h : KeepsSeats s t) {p : PortId} {e : KeyinId} :
    KeepsSeats s (startKeyinItem p e t) := by
  unfold startKeyinItem; split
  · exact h
  · exact h.modKeyin.modPort

theorem startQueued_keepsKeyboard (q : Port) : q.keepsKeyboard q.startQueued := by
  unfold Port.startQueued; split
  · exact ⟨rfl, rfl, Nat.le_refl _⟩
  · split
    · exact ⟨rfl, rfl, Nat.le_refl _⟩
    next hq => exact ⟨rfl, rfl, by simp [hq]⟩

protected theorem txChoice (h : KeepsSeats s t) {p : PortId} : KeepsSeats s (txChoice p t) := by
  unfold txChoice; split
  · exact h
  · split
    · exact h.startKeyinItem
    · exact h.modPort startQueued_keepsKeyboard

protected theorem startEntry (h : KeepsSeats s t) {e : KeyinId} : KeepsSeats s (startEntry e t) :=
  h.modKeyin.writeMark.txChoice

protected theorem startStep (h : KeepsSeats s t) {p : PortId} : KeepsSeats s (startStep p t) := by
  unfold startStep; split
  · exact h
  · split
    · exact h.startEntry
    · exact h

protected theorem report (h : KeepsSeats s t) {held : Option PortId} {r : Report} :
    KeepsSeats s (report held r t) :=
  (h.forEach fun _ _ hu => hu.makePending).forEach fun _ _ hu => hu.startStep

protected theorem keyinAction (h : KeepsSeats s t) {e : KeyinId} : KeepsSeats s (keyinAction e t) :=
  .ite h.makePending.startStep h

protected theorem endRecord (h : KeepsSeats s t) {e : KeyinId} {o : Outcome} :
    KeepsSeats s (endRecord e o t) := by
  unfold endRecord
  exact h.writeMark.raise.modKeyin

protected theorem endHeld (h : KeepsSeats s t) {e : KeyinId} {o : Outcome} :
    KeepsSeats s (endHeld e o t) :=
  h.endRecord.report.modKeyin

protected theorem endEntry (h : KeepsSeats s t) {e : KeyinId} {o : Outcome} :
    KeepsSeats s (endEntry e o t) :=
  .ite h.endHeld.startStep.txChoice h.endHeld

protected theorem stopEntry (h : KeepsSeats s t) {e : KeyinId} {o : Outcome} :
    KeepsSeats s (stopEntry e o t) := by
  unfold stopEntry; split
  · exact h
  · exact .ite h (.ite h.modKeyin h.endEntry)

protected theorem abortAll (h : KeepsSeats s t) {p : PortId} : KeepsSeats s (abortAll p t) :=
  h.forEach fun _ _ hu => hu.endHeld

protected theorem cycleEnd (h : KeepsSeats s t) {e : KeyinId} : KeepsSeats s (cycleEnd e t) := by
  unfold cycleEnd; split
  · exact h
  · exact .ite h.modKeyin.endEntry h.modKeyin.modKeyin

protected theorem itemEnd (h : KeepsSeats s t) {p : PortId} : KeepsSeats s (itemEnd p t) := by
  unfold itemEnd; split
  · exact h
  · split
    · exact h
    · refine .ite ?_ h
      dsimp only; split
      · exact h.modKeyin.endEntry
      · exact .ite h.modKeyin.cycleEnd h.modKeyin

protected theorem noteByte (h : KeepsSeats s t) {p : PortId} : KeepsSeats s (noteByte p t) := by
  unfold noteByte; split
  · exact h.modKeyin
  · exact h

/-! ### The line engine -/

protected theorem startPulse (h : KeepsSeats s t) {p : PortId} : KeepsSeats s (startPulse p t) :=
  h.modPort.writeMark

protected theorem cutPulse (h : KeepsSeats s t) {p : PortId} : KeepsSeats s (cutPulse p t) :=
  .ite h.modPort.writeMark h

theorem switchSense_keepsKeyboard (old : AuxB) (enabling : Bool) (q : Port) :
    q.keepsKeyboard (q.switchSense old enabling) := by
  unfold Port.switchSense; repeat' split
  all_goals exact ⟨rfl, rfl, Nat.le_refl _⟩

protected theorem enterSwitching (h : KeepsSeats s t) {p : PortId} {old : Profile} {arg : Word16} :
    KeepsSeats s (enterSwitching p old arg t) :=
  have hw := h.modPort.clearWindows
  ((KeepsSeats.ite hw hw.cutPulse).modPort (switchSense_keepsKeyboard _ _)).writeMark

protected theorem enterLiveWith (h : KeepsSeats s t) {p : PortId} {n : Nat} :
    KeepsSeats s (enterLiveWith p n t) :=
  h.modPort.writeMark.raise.report.txChoice

protected theorem endSwitching (h : KeepsSeats s t) {p : PortId} : KeepsSeats s (endSwitching p t) := by
  unfold endSwitching; split
  · exact h.modPort.txChoice
  · exact h.enterLiveWith

protected theorem settleSwitching (h : KeepsSeats s t) {p : PortId} :
    KeepsSeats s (settleSwitching p t) :=
  .ite h.endSwitching h

protected theorem profileSwitch (h : KeepsSeats s t) {p : PortId} {old : Profile} {arg : Word16} :
    KeepsSeats s (profileSwitch p old arg t) :=
  (KeepsSeats.ite h.enterSwitching.startStep h.enterSwitching).settleSwitching

protected theorem disablePort (h : KeepsSeats s t) {p : PortId} {arg : Word16} :
    KeepsSeats s (disablePort p arg t) :=
  have shut := h.modPort (p := p) (f := Port.shutDown) fun _ => ⟨rfl, rfl, Nat.zero_le _⟩
  shut.clearWindows.cutPulse.modPort.writeMark.abortAll

protected theorem applyActive (h : KeepsSeats s t) {p : PortId} {f : Profile} {arg : Word16} :
    KeepsSeats s (applyActive p f arg t) :=
  .ite h (.ite h.modPort.profileSwitch (.ite h.modPort h.modPort.disablePort))

protected theorem restartPort (h : KeepsSeats s t) {p : PortId} : KeepsSeats s (restartPort p t) :=
  have emptied := h.modPort (p := p) (f := fun q => { q with queue := [], hold := false })
    fun _ => ⟨rfl, rfl, Nat.zero_le _⟩
  .ite emptied.clearWindows
    emptied.cutPulse.abortAll.clearWindows.enterSwitching.startStep.settleSwitching

/-! ### Actions, counters and matches -/

protected theorem releaseHold (h : KeepsSeats s t) {p : PortId} : KeepsSeats s (releaseHold p t) :=
  h.modPort.txChoice

protected theorem performAction (h : KeepsSeats s t) {a : Action} {p : PortId} :
    KeepsSeats s (performAction a p t) := by
  cases a with
  | none => exact h
  | hold =>
    simp only [performAction, holdAction]
    exact h.modPort
  | release => exact h.releaseHold
  | pulse =>
    simp only [performAction, pulseAction]; split
    · exact h
    · exact h.startPulse
  | stage =>
    simp only [performAction, stageAction]; split
    · exact h
    · exact .ite h h.modPort.applyActive
  | keyin e => exact h.keyinAction
  | stopKeyin =>
    simp only [performAction, stopKeyinAction]; split
    · exact h.stopEntry
    · exact h

protected theorem fireComparator (h : KeepsSeats s t) {i : ComparatorId} :
    KeepsSeats s (fireComparator i t) :=
  h.raise.performAction.report

protected theorem counterEvent (h : KeepsSeats s t) {p : PortId} {ev : CounterEvent} :
    KeepsSeats s (counterEvent p ev t) :=
  h.modPort.evaluateAll.forEach fun _ _ hu => hu.fireComparator

protected theorem stopByMatch (h : KeepsSeats s t) {p : PortId} {i : PatternId} :
    KeepsSeats s (stopByMatch p i t) := by
  unfold stopByMatch; split
  · exact h.stopEntry
  · exact h

protected theorem reportMatch (h : KeepsSeats s t) {b : Bool} {p : PortId} {i : PatternId} :
    KeepsSeats s (reportMatch b p i t) :=
  .ite h.stopByMatch.report h.report.stopByMatch

protected theorem handleMatch (h : KeepsSeats s t) {b : Bool} {p : PortId} {i : PatternId} :
    KeepsSeats s (handleMatch b p i t) := by
  unfold handleMatch; split
  · exact h
  · exact .counterEvent <| .reportMatch <| .performAction <| .raise <|
      .ite h.modPattern.writeMark h.modPattern

protected theorem runJob (h : KeepsSeats s t) {b : Bool} {p : PortId} {j : ByteJob} :
    KeepsSeats s (runJob b p j t) := by
  cases j with
  | watch => exact h
  | handle i => exact h.handleMatch
  | count ev => exact h.counterEvent

/-! ### The events of a console line -/

protected theorem storeCharacter (h : KeepsSeats s t) {p : PortId} {data : Byte} {parity : Bool}
    {order : StoreOrder} : KeepsSeats s (storeCharacter p data parity order t) :=
  (h.modPort.storeByte.noteByte.forEach fun _ _ hu => hu.runJob).pushByte.forEach
    fun _ _ hu => hu.runJob

protected theorem recordBreak (h : KeepsSeats s t) {p : PortId} : KeepsSeats s (recordBreak p t) :=
  h.modPort.writeMark.counterEvent.raise.clearWindows

protected theorem abortDead (h : KeepsSeats s t) {p : PortId} {was : Option KeyinId} :
    KeepsSeats s (abortDead p was t) := by
  unfold abortDead; split
  · exact .ite h.endEntry h
  · exact h

protected theorem enterDead (h : KeepsSeats s t) {p : PortId} : KeepsSeats s (enterDead p t) :=
  h.modPort.clearWindows.writeMark.counterEvent.raise.abortDead

protected theorem deadFromLive (h : KeepsSeats s t) {p : PortId} : KeepsSeats s (deadFromLive p t) :=
  have hb : KeepsSeats s (if (t.port p).breakSeen then t else recordBreak p t) := .ite h h.recordBreak
  .ite hb.enterDead hb

protected theorem leaveDead (h : KeepsSeats s t) {p : PortId} : KeepsSeats s (leaveDead p t) := by
  have hl := (h.modPort (p := p) (f := fun q => if q.redetects then q.enterDetecting
    else { q with state := .live, breakSeen := false, qualTimer := none })
    fun q => by split <;> exact ⟨rfl, rfl, Nat.le_refl _⟩).writeMark (p := p) (kind := .live) (arg := 0)
  exact (KeepsSeats.ite hl.raise hl.raise.report).startStep.txChoice

protected theorem evaluateRun (h : KeepsSeats s t) {p : PortId} {m : Nat} :
    KeepsSeats s (evaluateRun p m t) := by
  unfold evaluateRun; dsimp only; split
  · exact h.modPort.enterLiveWith
  · exact h.raise.modPort

protected theorem acceptEdge (h : KeepsSeats s t) {p : PortId} {edge : Nat} {mark : Bool} :
    KeepsSeats s (acceptEdge p edge mark t) := by
  unfold acceptEdge; dsimp only; split
  · exact .ite h.modPort.evaluateRun h.modPort
  · exact h.modPort

protected theorem freeTransmitter (h : KeepsSeats s t) {p : PortId} :
    KeepsSeats s (freeTransmitter p t) :=
  h.modPort.txChoice

protected theorem finishByte (h : KeepsSeats s t) {p : PortId} {b : Bool} :
    KeepsSeats s (finishByte p b t) :=
  (KeepsSeats.ite h.itemEnd.counterEvent h.counterEvent.itemEnd).freeTransmitter

protected theorem endPulse (h : KeepsSeats s t) {p : PortId} : KeepsSeats s (endPulse p t) :=
  h.modPort.writeMark.raise.report

protected theorem takeSample (h : KeepsSeats s t) {p : PortId} {high : Bool} :
    KeepsSeats s (takeSample p high t) :=
  .ite (.ite h.modPort.writeMark.raise.report h.modPort.writeMark.raise) h.modPort

protected theorem intervalExpiry (h : KeepsSeats s t) {e : KeyinId} :
    KeepsSeats s (intervalExpiry e t) := by
  unfold intervalExpiry; split
  · exact h
  · exact .ite h.modKeyin.txChoice h

end KeepsSeats
end Sys2Proof.Machine
end

section
/-! PROOFS. The writer, the wait list, the opening and the ending of sessions keep the seats. -/

namespace Sys2Proof.Machine

/-! ### Sessions on no list -/

/-- The session holds no keyboard and waits for none. -/
def State.unlisted (s : State) (k : SlotId) : Prop :=
  ∀ p : PortId, (s.port p).writer ≠ some k ∧ k ∉ (s.port p).waitList

section
variable {s t : State}

theorem unlisted_of_unattached (hs : s.writersSound) {k : SlotId} (hk : (s.session k).attachment = none) :
    s.unlisted k := by
  intro p
  obtain ⟨hwriter, hlist, -⟩ := hs p
  have hoff : ¬ s.onPort k p := fun h => by
    obtain ⟨a, ha, -⟩ := attachedTo_iff.1 h
    simp [hk] at ha
  exact ⟨fun h => hoff (hwriter k h), fun h => hoff (hlist k h).1⟩

/-- The sessions that hold or wait for a keyboard keep sound writers sound, whatever becomes of the others. -/
theorem writersSound_of_unlisted {k : SlotId} (hk : s.unlisted k)
    (hseats : ∀ j, j ≠ k → (t.session j).seat = (s.session j).seat)
    (hports : ∀ p, (t.port p).writer = (s.port p).writer ∧ (t.port p).waitList = (s.port p).waitList)
    (hs : s.writersSound) : t.writersSound := by
  intro p
  obtain ⟨hwriter, hlist, hnodup, hlen, hrank, hnone⟩ := hs p
  obtain ⟨hkwriter, hklist⟩ := hk p
  have on : ∀ j, j ≠ k → s.onPort j p → t.onPort j p := fun j hj h => by
    rw [State.onPort, attachedTo_eq_seat] at h ⊢
    rwa [hseats j hj]
  have ranks : (s.port p).waitList.map t.rankOf = (s.port p).waitList.map s.rankOf :=
    List.map_congr_left fun j hj => by
      rw [rankOf_eq_seat, rankOf_eq_seat, hseats j fun e => hklist (e ▸ hj)]
  rw [State.waitSound, (hports p).1, (hports p).2, ranks]
  refine ⟨fun j hj => on j (fun e => hkwriter (e ▸ hj)) (hwriter j hj), fun j hj => ⟨?_, (hlist j hj).2⟩,
    hnodup, hlen, hrank, hnone⟩
  exact on j (fun e => hklist (e ▸ hj)) (hlist j hj).1

theorem waitSound_of_sublist (h : SeatsKept s t) {p : PortId}
    (hwriter : (t.port p).writer = (s.port p).writer)
    (hsub : (t.port p).waitList.Sublist (s.port p).waitList) (hs : s.waitSound p) : t.waitSound p := by
  obtain ⟨hon, hlist, hnodup, hlen, hrank, hnone⟩ := hs
  rw [State.waitSound, hwriter, h.rankOf]
  simp only [State.onPort, h.attachedTo]
  exact ⟨hon, fun j hj => hlist j (hsub.subset hj), hnodup.sublist hsub,
    Nat.le_trans hsub.length_le hlen, hrank.sublist (hsub.map _),
    fun hw => List.eq_nil_of_sublist_nil (hnone hw ▸ hsub)⟩

/-- The head of a sound wait list is a sound writer over the rest of the list (R77). -/
theorem waitSound_of_promoted (h : SeatsKept s t) {p : PortId}
    (hwriter : (t.port p).writer = (s.port p).waitList.head?)
    (hlist : (t.port p).waitList = (s.port p).waitList.tail) (hs : s.waitSound p) : t.waitSound p := by
  obtain ⟨-, hwaiting, hnodup, hlen, hrank, -⟩ := hs
  rw [State.waitSound, hwriter, hlist, h.rankOf]
  simp only [State.onPort, h.attachedTo]
  cases hw : (s.port p).waitList with
  | nil => simp
  | cons j w =>
    rw [hw] at hwaiting hnodup hlen hrank
    obtain ⟨hj, hnodup⟩ := List.nodup_cons.1 hnodup
    refine ⟨fun i hi => ?_, fun i hi => ⟨(hwaiting i (List.mem_cons_of_mem j hi)).1, ?_⟩, hnodup,
      Nat.le_trans (Nat.le_succ _) hlen, (List.pairwise_cons.1 hrank).2, by simp⟩
    · obtain rfl : j = i := by simpa using hi
      exact (hwaiting j List.mem_cons_self).1
    · rintro ⟨⟩
      exact hj hi

/-- A session takes the keyboard of its port over a sound wait list (R72, R76). -/
theorem waitSound_of_taken (h : SeatsKept s t) {p : PortId} {k : SlotId} (hon : s.onPort k p)
    (hk : k ∉ (s.port p).waitList) (hwriter : (t.port p).writer = some k)
    (hlist : (t.port p).waitList = (s.port p).waitList) (hs : s.waitSound p) : t.waitSound p := by
  obtain ⟨-, hwaiting, hnodup, hlen, hrank, -⟩ := hs
  rw [State.waitSound, hwriter, hlist, h.rankOf]
  simp only [State.onPort, h.attachedTo]
  refine ⟨fun i hi => ?_, fun i hi => ⟨(hwaiting i hi).1, ?_⟩, hnodup, hlen, hrank, by simp⟩
  · obtain rfl : k = i := by simpa using hi
    exact hon
  · rintro ⟨⟩
    exact hk hi

/-- In a list by falling rank, the members ahead of a rank are those of the rank or higher, and the members
behind those below it. -/
theorem takeWhile_dropWhile_rank {rank : SlotId → Nat} {n : Nat} {w : List SlotId}
    (h : (w.map rank).Pairwise (· ≥ ·)) :
    w.takeWhile (fun i => decide (n ≤ rank i)) = w.filter (fun i => decide (n ≤ rank i)) ∧
      w.dropWhile (fun i => decide (n ≤ rank i)) = w.filter (fun i => decide (rank i < n)) := by
  induction w with
  | nil => simp
  | cons j w ih =>
    obtain ⟨hj, hw⟩ := List.pairwise_cons.1 h
    obtain ⟨htake, hdrop⟩ := ih hw
    by_cases hn : n ≤ rank j
    · simp [hn, htake, hdrop, Nat.not_lt.2 hn]
    · have low : ∀ i ∈ w, rank i < n := fun i hi =>
        Nat.lt_of_le_of_lt (hj _ (List.mem_map_of_mem hi)) (Nat.not_le.1 hn)
      have none : w.filter (fun i => decide (n ≤ rank i)) = [] := by
        simpa using low
      have all : w.filter (fun i => decide (rank i < n)) = w := by
        simpa using low
      simp [hn, none, all, Nat.not_le.1 hn]

/-- A session joins a sound wait list that has room (R73). -/
theorem waitSound_of_joined (h : SeatsKept s t) {p : PortId} {k w : SlotId} (hon : s.onPort k p)
    (hk : k ∉ (s.port p).waitList) (hsw : (s.port p).writer = some w) (hkw : w ≠ k)
    (hroom : (s.port p).waitList.length < Config.waitPlaces)
    (hwriter : (t.port p).writer = (s.port p).writer)
    (hlist : (t.port p).waitList = (s.port p).waitList.takeWhile (fun i => s.rankOf k ≤ s.rankOf i) ++
      k :: (s.port p).waitList.dropWhile (fun i => s.rankOf k ≤ s.rankOf i))
    (hs : s.waitSound p) : t.waitSound p := by
  obtain ⟨hwon, hwaiting, hnodup, -, hrank, -⟩ := hs
  obtain ⟨htake, hdrop⟩ := takeWhile_dropWhile_rank (n := s.rankOf k) hrank
  have hsplit := List.takeWhile_append_dropWhile (p := fun i => decide (s.rankOf k ≤ s.rankOf i))
    (l := (s.port p).waitList)
  have hperm : ((t.port p).waitList).Perm (k :: (s.port p).waitList) := by
    rw [hlist]
    exact List.perm_middle.trans (by rw [hsplit])
  refine ⟨fun i hi => ?_, fun i hi => ?_, hperm.nodup_iff.2 (List.nodup_cons.2 ⟨hk, hnodup⟩), ?_, ?_, ?_⟩
  · rw [State.onPort, h.attachedTo]
    exact hwon i (hwriter ▸ hi)
  · rw [State.onPort, h.attachedTo, hwriter]
    rcases List.mem_cons.1 (hperm.mem_iff.1 hi) with rfl | hi
    · exact ⟨hon, by rw [hsw]; simpa using hkw⟩
    · exact hwaiting i hi
  · rw [hperm.length_eq, List.length_cons]
    exact hroom
  · rw [hlist, h.rankOf, List.map_append, List.map_cons, List.pairwise_append, List.pairwise_cons]
    rw [← hsplit, List.map_append, List.pairwise_append] at hrank
    obtain ⟨hahead, hbehind, hacross⟩ := hrank
    have high : ∀ x ∈ ((s.port p).waitList.takeWhile fun i => decide (s.rankOf k ≤ s.rankOf i)).map s.rankOf,
        s.rankOf k ≤ x := by
      rw [htake]
      simp only [List.mem_map, List.mem_filter, decide_eq_true_eq]
      rintro x ⟨i, ⟨-, hi⟩, rfl⟩
      exact hi
    have low : ∀ x ∈ ((s.port p).waitList.dropWhile fun i => decide (s.rankOf k ≤ s.rankOf i)).map s.rankOf,
        x ≤ s.rankOf k := by
      rw [hdrop]
      simp only [List.mem_map, List.mem_filter, decide_eq_true_eq]
      rintro x ⟨i, ⟨-, hi⟩, rfl⟩
      exact Nat.le_of_lt hi
    refine ⟨hahead, ⟨low, hbehind⟩, fun x hx y hy => ?_⟩
    rcases List.mem_cons.1 hy with rfl | hy
    · exact high x hx
    · exact hacross x hx y hy
  · rw [hwriter, hsw]; simp

theorem onPort_of_listed (hs : s.writersSound) {k : SlotId} {p : PortId}
    (h : (s.port p).writer = some k ∨ k ∈ (s.port p).waitList) : s.onPort k p := by
  obtain ⟨hwriter, hlist, -⟩ := hs p
  exact h.elim (hwriter k) fun hk => (hlist k hk).1

/-- A session is a writer or waits on one port alone. -/
theorem port_of_listed (hs : s.writersSound) {k : SlotId} {p q : PortId}
    (hp : (s.port p).writer = some k ∨ k ∈ (s.port p).waitList)
    (hq : (s.port q).writer = some k ∨ k ∈ (s.port q).waitList) : q = p := by
  obtain ⟨a, ha, rfl⟩ := attachedTo_iff.1 (onPort_of_listed hs hp)
  obtain ⟨b, hb, rfl⟩ := attachedTo_iff.1 (onPort_of_listed hs hq)
  rw [ha] at hb
  cases hb; rfl

/-- A session that has left its port is on no list. -/
theorem unlisted_of_leavePort (hs : s.writersSound) (k : SlotId) : (leavePort k s).unlisted k := by
  have elsewhere : ∀ {p q : PortId}, ((s.port p).writer = some k ∨ k ∈ (s.port p).waitList) → q ≠ p →
      (s.port q).writer ≠ some k ∧ k ∉ (s.port q).waitList := fun hp hq =>
    ⟨fun h => hq (port_of_listed hs hp (.inl h)), fun h => hq (port_of_listed hs hp (.inr h))⟩
  by_cases hlisted : ∃ p, (s.port p).writer = some k ∨ k ∈ (s.port p).waitList
  · obtain ⟨p, hp⟩ := hlisted
    obtain ⟨-, hlist, hnodup, -⟩ := hs p
    intro q
    rcases hp with hwriter | hwait
    · rw [leavePort_of_writer hs hwriter, releaseWriter_port]
      have hoff : k ∉ (s.port p).waitList := fun h => (hlist k h).2 hwriter
      split
      · exact ⟨fun h => hoff (List.mem_of_mem_head? h), fun h => hoff (List.mem_of_mem_tail h)⟩
      next hq => exact elsewhere (.inl hwriter) hq
    · rw [leavePort_of_waiting hs hwait, leaveWaitList_port]
      split
      · exact ⟨(hlist k hwait).2, hnodup.not_mem_erase⟩
      next hq => exact elsewhere (.inr hwait) hq
  · simp only [not_exists, not_or] at hlisted
    rw [leavePort_of_unlisted fun a _ => hlisted a.port]
    exact hlisted

theorem closeSession_seat (k : SlotId) (s : State) (j : SlotId) :
    ((closeSession k s).session j).seat = if j = k then none else (s.session j).seat := by
  rw [closeSession_session]
  split
  · rfl
  · exact (leavePort_seatsKept k s j).2

theorem closeSession_generation (k : SlotId) (s : State) (j : SlotId) :
    ((closeSession k s).session j).generation = (s.session j).generation := by
  rw [closeSession_session]
  split
  next h => rw [h]
  · exact (leavePort_seatsKept k s j).1

theorem detachSession_holder (k : SlotId) (s : State) (j : SlotId) :
    ((detachSession k s).session j).holder = (s.session j).holder := by
  have detached : ∀ x : Session, x.detached.holder = x.holder := by
    rintro ⟨g, _ | l⟩ <;> rfl
  have left : ∀ j, ((leavePort k s).session j).holder = (s.session j).holder := fun j => by
    rw [holder_eq_seat, holder_eq_seat, (leavePort_seatsKept k s j).2]
  rw [detachSession_session]
  split
  next hj => rw [detached, hj, left]
  · exact left j

/-- The closing of several sessions frees their slots and leaves the others in their seats. -/
theorem closeSessions_seat (xs : List SlotId) (s : State) (j : SlotId) :
    ((forEach xs closeSession s).session j).seat = if j ∈ xs then none else (s.session j).seat := by
  induction xs generalizing s with
  | nil => simp
  | cons k xs ih =>
    rw [forEach_cons, ih, closeSession_seat]
    by_cases hj : j = k <;> simp [hj]

theorem closeSessions_generation (xs : List SlotId) (s : State) (j : SlotId) :
    ((forEach xs closeSession s).session j).generation = (s.session j).generation :=
  forEach_reads (fun u => (u.session j).generation) (fun k u => closeSession_generation k u j) xs s

theorem closeSessions_outside (xs : List SlotId) (s : State) :
    (forEach xs closeSession s).outside = s.outside :=
  forEach_reads State.outside closeSession_outside xs s

end

namespace KeepsSeats
variable {s t u : State}

/-- The rule for what leaves every session in its seat and acts on the keyboards. -/
theorem of_keyboards (hseats : SeatsKept s t) (hwait : ∀ p, s.waitSound p → t.waitSound p)
    (hqueue : ∀ p, (t.port p).queue = [] ∨
      (t.port p).queue = (s.port p).queue ∧ (t.port p).writer = (s.port p).writer)
    (hout : t.outside = s.outside) : KeepsSeats s t := by
  simp only [State.outside, Prod.mk.injEq] at hout
  obtain ⟨hstations, hcommissioning, -⟩ := hout
  refine ⟨fun hs p => hwait p (hs p), fun hs p => ?_,
    sessionsCounted_of_holders hstations hcommissioning fun k => .inr ?_,
    fun k hk => hseats.session_of_free hk⟩
  · rcases hqueue p with h | ⟨h, hw⟩
    · simp [h]
    · rw [h, hw]; exact hs p
  · rw [holder_eq_seat, holder_eq_seat, (hseats k).2]

/-! ### The writer and the wait list -/

protected theorem leaveWaitList (h : KeepsSeats s t) {p : PortId} {k : SlotId} :
    KeepsSeats s (leaveWaitList p k t) := by
  refine h.trans (of_keyboards (leaveWaitList_seatsKept p k t) (fun j => ?_) (fun j => .inr ?_)
    (leaveWaitList_outside p k t))
  · by_cases hj : j = p
    · subst hj
      exact waitSound_of_sublist (leaveWaitList_seatsKept j k t) (by simp [leaveWaitList_port])
        (by simpa [leaveWaitList_port] using List.erase_sublist)
    · exact waitSound_of_keyboard (leaveWaitList_seatsKept p k t) (by simp [leaveWaitList_port, hj])
        (by simp [leaveWaitList_port, hj])
  · by_cases hj : j = p <;> simp [leaveWaitList_port, hj]

protected theorem releaseWriter (h : KeepsSeats s t) {p : PortId} : KeepsSeats s (releaseWriter p t) := by
  refine h.trans (of_keyboards (releaseWriter_seatsKept p t) (fun j => ?_) (fun j => ?_)
    (releaseWriter_outside p t))
  · by_cases hj : j = p
    · subst hj
      exact waitSound_of_promoted (releaseWriter_seatsKept j t) (by simp [releaseWriter_port])
        (by simp [releaseWriter_port])
    · exact waitSound_of_keyboard (releaseWriter_seatsKept p t) (by simp [releaseWriter_port, hj])
        (by simp [releaseWriter_port, hj])
  · by_cases hj : j = p <;> simp [releaseWriter_port, hj]

protected theorem leavePort (h : KeepsSeats s t) {k : SlotId} : KeepsSeats s (leavePort k t) := by
  unfold leavePort; split
  · exact h
  · exact (KeepsSeats.ite h.releaseWriter h).leaveWaitList

protected theorem demoteWriter (h : KeepsSeats s t) {k : SlotId} : KeepsSeats s (demoteWriter k t) := by
  unfold demoteWriter; split
  · exact h
  · exact h.releaseWriter.modAttachment

/-! ### The end of an attachment and of a session -/

protected theorem detachSession (h : KeepsSeats s t) {k : SlotId} : KeepsSeats s (detachSession k t) := by
  have left := (KeepsSeats.refl t).leavePort (k := k)
  have hout := detachSession_outside k t
  simp only [State.outside, Prod.mk.injEq] at hout
  refine h.trans ⟨fun ht => ?_, fun ht => ?_, ?_, fun j hj => ?_⟩
  · exact writersSound_of_unlisted (unlisted_of_leavePort ht k)
      (fun j hj => by rw [detachSession_session, if_neg hj]) (fun p => ⟨rfl, rfl⟩) (left.writers ht)
  · exact left.queues ht
  · exact sessionsCounted_of_holders hout.1 hout.2.1 fun j => .inr (detachSession_holder k t j)
  · rw [detachSession_session]
    split
    next hjk =>
      subst hjk
      rw [left.free j hj]
      cases hx : t.session j; simp_all [Session.detached]
    · exact left.free j hj

protected theorem closeSession (h : KeepsSeats s t) {k : SlotId} : KeepsSeats s (closeSession k t) := by
  have left := (KeepsSeats.refl t).leavePort (k := k)
  have hout := closeSession_outside k t
  simp only [State.outside, Prod.mk.injEq] at hout
  refine h.trans ⟨fun ht => ?_, fun ht => ?_, ?_, fun j hj => ?_⟩
  · exact writersSound_of_unlisted (unlisted_of_leavePort ht k)
      (fun j hj => by rw [closeSession_session, if_neg hj]) (fun p => ⟨rfl, rfl⟩) (left.writers ht)
  · exact left.queues ht
  · refine sessionsCounted_of_holders hout.1 hout.2.1 fun j => ?_
    rw [holder_eq_seat, closeSession_seat, holder_eq_seat]
    split
    · exact .inl rfl
    · exact .inr rfl
  · rw [closeSession_session]
    split
    next hjk =>
      subst hjk
      cases hx : t.session j; simp_all
    · exact left.free j hj

/-- An accepted Station Table write closes the sessions of its entry, so that none counts under the new limit
(R59, R61). -/
protected theorem applyStation (h : KeepsSeats s t) {e : StationId} {x : Station} :
    KeepsSeats s (applyStation e x t) := by
  generalize hu : forEach (t.slotsOf e) closeSession t = u
  have closed : KeepsSeats t u := hu ▸ (KeepsSeats.refl t).forEach fun _ _ hv => hv.closeSession
  have written : Machine.applyStation e x t =
      { u with stations := u.stations.set e x, commissioning := u.commissioning && e != 0 } := by
    rw [← hu]; rfl
  have gone : ∀ k, (u.session k).ofStation e = false := fun k => by
    rw [ofStation_eq_seat, ← hu, closeSessions_seat]
    split
    · rfl
    next hk =>
      rw [← ofStation_eq_seat, Bool.eq_false_iff]
      exact fun h => hk (by simp [State.slotsOf, allSlots, h])
  rw [written]
  refine h.trans ⟨closed.writers, closed.queues, fun ht => ?_, closed.free⟩
  have station : ∀ e', e' ≠ e → (u.stations.set e x)[e'] = u.station e' := fun e' he => by
    have : (e : Nat) ≠ e' := fun h => he (Fin.ext h.symm)
    simp [State.station, this]
  obtain ⟨hvalid, hcount, hwild⟩ := closed.counted ht
  refine ⟨fun k l hl => ?_, fun e' => ?_, fun hc => ?_⟩
  · have hne : l.station ≠ e := fun he => by
      have := gone k
      simp [Session.ofStation, show (u.session k).live = some l from hl, he] at this
    simpa only [State.station, station _ hne] using hvalid k l hl
  · by_cases he : e' = e
    · subst he
      have none : u.sessionCount e' = 0 := by simp [State.sessionCount, gone]
      exact none ▸ Nat.zero_le _
    · show u.sessionCount e' ≤ (u.stations.set e x)[e'].limit
      rw [station e' he]
      exact hcount e'
  · obtain ⟨hcomm, hne⟩ : u.commissioning = true ∧ e ≠ 0 := by simpa using hc
    simpa only [State.station, station 0 (Ne.symm hne)] using hwild hcomm

end KeepsSeats
end Sys2Proof.Machine
end

section
/-! PROOFS. A served frame names a session that is not FREE; with this the requests of a session keep the
seats. -/

namespace Sys2Proof.Machine

/-! ### Taken frames (R173) -/

/-- The code of a request's kind (R182). -/
def Request.code : Request → Nat
  | .probe => 0x01
  | .openSession => 0x02
  | .closeSession => 0x03
  | .attach _ => 0x04
  | .detach => 0x05
  | .seek _ _ => 0x06
  | .credit _ => 0x07
  | .input _ _ => 0x08
  | .breakRequest => 0x09
  | .release _ => 0x0A
  | .pulse _ => 0x0B
  | .keyinStart _ => 0x0C
  | .keyinStop _ => 0x0D
  | .arm _ => 0x0E
  | .rearm _ _ => 0x0F
  | .manage _ _ => 0x10

theorem parseRequest_code {kind : Byte} {bs : List Byte} {r : Request} (h : parseRequest kind bs = some r) :
    kind.toNat = r.code := by
  have body : ∀ {x : Request}, noBody bs x = some r → r = x := fun h => by
    unfold noBody at h
    split at h
    · exact (Option.some.inj h).symm
    · cases h
  have map : ∀ {α : Type} {o : Option α} {f : α → Request}, o.map f = some r → ∃ a, r = f a := fun h => by
    obtain ⟨a, -, ha⟩ := Option.map_eq_some_iff.1 h
    exact ⟨a, ha.symm⟩
  unfold parseRequest at h
  split at h
  case h_1 hk | h_2 hk | h_3 hk | h_5 hk | h_9 hk => rw [body h]; exact hk
  case h_4 hk | h_6 hk | h_7 hk | h_10 hk | h_11 hk | h_12 hk | h_13 hk | h_14 hk | h_15 hk =>
    obtain ⟨a, rfl⟩ := map h; exact hk
  case h_8 hk =>
    split at h
    · cases h; exact hk
    · cases h
  case h_16 hk =>
    split at h
    · cases h
    · obtain ⟨a, rfl⟩ := map h; exact hk
  case h_17 => cases h

/-- The checks that a frame of a request has passed (R173). -/
theorem classify_request {s : State} {f : RxFrame} {r : Request} (h : s.classify f = .request r) :
    parseRequest f.kind f.body = some r ∧ (f.needsNoHandle || s.handleValid f) = true := by
  unfold State.classify at h
  split at h
  · cases h
  · split at h
    · cases h
    · split at h
      · cases h
      · split at h
        · cases h
        next hparse =>
          split at h
          next hhandle => cases h; exact ⟨hparse, hhandle⟩
          · cases h

/-- A frame is served without a handle where it is a PROBE or an OPEN, and then alone (R63). -/
theorem needsNoHandle_of_takes {s : State} {f : RxFrame} {r : Request} (h : s.takes f r) :
    f.needsNoHandle = (r.code == 1 || r.code == 2) := by
  have hcode := parseRequest_code (classify_request h.2).1
  rw [← hcode]
  unfold RxFrame.needsNoHandle
  have eq : ∀ n : Nat, n < 256 → (f.kind == BitVec.ofNat 8 n) = (f.kind.toNat == n) := fun n hn => by
    rw [Bool.eq_iff_iff, beq_iff_eq, beq_iff_eq, ← BitVec.toNat_inj, BitVec.toNat_ofNat,
      Nat.mod_eq_of_lt hn]
  exact congrArg₂ _ (eq 1 (by omega)) (eq 2 (by omega))

/-- The handle of a served frame names a session that is not FREE (R63). -/
theorem live_of_takes {s : State} {f : RxFrame} {r : Request} (h : s.takes f r) (hr : 3 ≤ r.code) :
    (s.session f.session).live ≠ none := by
  have hkind : f.needsNoHandle = false := by
    rw [needsNoHandle_of_takes h, Bool.or_eq_false_iff, beq_eq_false_iff_ne, beq_eq_false_iff_ne]
    omega
  have hvalid := (classify_request h.2).2
  rw [hkind, Bool.false_or] at hvalid
  intro hfree
  simp only [State.handleValid, show (s.session (slotOf f.slot)).live = none from hfree] at hvalid
  simp at hvalid

/-- The service of a row leaves the state, or serves the oldest frame, a request of the row. -/
theorem serve_next {α : Type} {pick : Request → Option α} {act : Ctx → α → State → State} {s t : State}
    (h : serve pick act s = .next t) :
    t = s ∨ ∃ (f : RxFrame) (r : Request) (a : α), s.takes f r ∧ pick r = some a ∧
      t = settle (act (s.ctx f r.op) a (accept f s)) := by
  unfold serve at h
  split at h
  · cases h; exact .inl rfl
  next f hf =>
    split at h
    next r hr =>
      split at h
      next a ha => cases h; exact .inr ⟨f, r, a, ⟨hf, hr⟩, ha, rfl⟩
      · cases h; exact .inl rfl
    · cases h; exact .inl rfl

theorem accept_seatsKept (f : RxFrame) (s : State) : SeatsKept s (accept f s) := by
  intro k
  rw [accept_eq]
  unfold State.touched
  split
  · exact ⟨rfl, rfl⟩
  · show ((s.modSession _ (·.touchedBy s.sessionLimit f.source)).session k).generation = _ ∧
      ((s.modSession _ (·.touchedBy s.sessionLimit f.source)).session k).seat = _
    rw [session_modSession]
    split
    next hk =>
      subst hk
      simp [Session.touchedBy, Session.seat, Function.comp_def]
    · exact ⟨rfl, rfl⟩

/-! ### The contention for a keyboard (R69, R72, R73, R76) -/

/-- The outcomes of the contention: no writer, preemption, a place on the wait list, or FULL or BUSY. -/
theorem contend_cases (k : SlotId) (a : AttachPlan) (s : State) :
    ((s.port a.port).writer = none ∧
      (contend k a s).1 = writerChange a.port none (some k) s ∧ (contend k a s).2 = none) ∨
    ∃ w, (s.port a.port).writer = some w ∧
      ((a.preempt = true ∧ s.rankOf w < s.rankOf k) ∧
          (contend k a s).1 = preempt a.port w k s ∧ (contend k a s).2 = none ∨
        ¬ (a.preempt = true ∧ s.rankOf w < s.rankOf k) ∧
          ((a.wait = true ∧ (s.port a.port).waitList.length < Config.waitPlaces) ∧
              (contend k a s).1 = joinWaitList a.port k s ∧ (contend k a s).2 = none ∨
            ¬ (a.wait = true ∧ (s.port a.port).waitList.length < Config.waitPlaces) ∧
              (contend k a s).1 = s ∧
              (contend k a s).2 = some (if a.wait then .full else .busy))) := by
  unfold contend
  cases hw : (s.port a.port).writer with
  | none => exact .inl ⟨rfl, rfl, rfl⟩
  | some w =>
    refine .inr ⟨w, rfl, ?_⟩
    by_cases hp : a.preempt = true ∧ s.rankOf w < s.rankOf k
    · exact .inl ⟨hp, by simp [hp], by simp [hp]⟩
    · refine .inr ⟨hp, ?_⟩
      have hp' : (a.preempt && decide (s.rankOf w < s.rankOf k)) = false := by simpa using hp
      simp only [hp', Bool.false_eq_true, if_false]
      cases a.wait with
      | false => simp
      | true =>
        by_cases hroom : (s.port a.port).waitList.length < Config.waitPlaces <;> simp [hroom]

/-- The flagging of a preempted writer (R76). -/
def Attachment.preemptFlagged (a : Attachment) : Attachment :=
  { a with flags := { a.flags with preempted := true } }

theorem preempt_record (p : PortId) (w k : SlotId) (s : State) (j : SlotId) :
    (preempt p w k s).record j =
      if j = w then ((writerChange p (some w) (some k) s).record j).mapAttachment Attachment.preemptFlagged
      else (writerChange p (some w) (some k) s).record j :=
  modAttachment_record _ w j (f := Attachment.preemptFlagged)

theorem preempt_port (p : PortId) (w k : SlotId) (s : State) (j : PortId) :
    (preempt p w k s).port j = (writerChange p (some w) (some k) s).port j := rfl

theorem preempt_seatsKept (p : PortId) (w k : SlotId) (s : State) : SeatsKept s (preempt p w k s) :=
  (writerChange_seatsKept p (some w) (some k) s).trans <| .of_record fun j => by
    rw [preempt_record]
    split
    · exact ⟨rfl, seat_mapAttachment (f := Attachment.preemptFlagged) (fun _ => rfl) _⟩
    · exact ⟨rfl, rfl⟩

theorem contend_seatsKept (k : SlotId) (a : AttachPlan) (s : State) : SeatsKept s (contend k a s).1 := by
  rcases contend_cases k a s with ⟨-, h, -⟩ | ⟨w, -, ⟨-, h, -⟩ | ⟨-, ⟨-, h, -⟩ | ⟨-, h, -⟩⟩⟩ <;> rw [h]
  · exact writerChange_seatsKept _ _ _ _
  · exact preempt_seatsKept _ _ _ _
  · exact joinWaitList_seatsKept _ _ _
  · exact .refl s

theorem contend_outside (k : SlotId) (a : AttachPlan) (s : State) :
    (contend k a s).1.outside = s.outside := by
  rcases contend_cases k a s with ⟨-, h, -⟩ | ⟨w, -, ⟨-, h, -⟩ | ⟨-, ⟨-, h, -⟩ | ⟨-, h, -⟩⟩⟩ <;> rw [h] <;> simp

theorem contend_port_ne {k : SlotId} {a : AttachPlan} {j : PortId} (hj : j ≠ a.port) (s : State) :
    (contend k a s).1.port j = s.port j := by
  rcases contend_cases k a s with ⟨-, h, -⟩ | ⟨w, -, ⟨-, h, -⟩ | ⟨-, ⟨-, h, -⟩ | ⟨-, h, -⟩⟩⟩ <;> rw [h]
  · rw [writerChange_port, if_neg hj]
  · rw [preempt_port, writerChange_port, if_neg hj]
  · rw [joinWaitList_port, if_neg hj]

theorem placeSession_session (k : SlotId) (p : PortId) (x : Target) (c g : Nat) (s : State) (j : SlotId) :
    (placeSession k p x c g s).session j =
      if j = k then { s.session k with live := (s.session k).live.map fun l =>
        { l with attachment := some (.placed p (s.port p).ring x c g) } }
      else s.session j := session_modSession _ _ _ _

namespace KeepsSeats
variable {s t u : State}

protected theorem accept (h : KeepsSeats s t) {f : RxFrame} : KeepsSeats s (accept f t) :=
  h.mapSessions (by rw [accept_eq]) (by rw [accept_eq]) (by rw [accept_eq]) (accept_seatsKept f t)

/-! ### ATTACH (R67 to R73) -/

/-- A session attached to the port, and on no list, may contend for its keyboard. -/
protected theorem contend (h : KeepsSeats s t) {k : SlotId} {a : AttachPlan} (hon : t.onPort k a.port)
    (hk : s.writersSound → t.unlisted k) : KeepsSeats s (contend k a t).1 := by
  have seats := contend_seatsKept k a t
  have hout := contend_outside k a t
  simp only [State.outside, Prod.mk.injEq] at hout
  refine ⟨fun hs p => ?_, fun hs p => ?_, fun hs => sessionsCounted_of_holders hout.1 hout.2.1
    (fun j => .inr ?_) (h.counted hs), fun j hj => ?_⟩
  · have ht := h.writers hs p
    by_cases hp : p = a.port
    · subst hp
      obtain ⟨hkwriter, hklist⟩ := hk hs a.port
      rcases contend_cases k a t with ⟨-, e, -⟩ | ⟨w, hw, ⟨-, e, -⟩ | ⟨-, ⟨⟨-, hroom⟩, e, -⟩ | ⟨-, e, -⟩⟩⟩ <;>
        rw [e] at seats ⊢
      · exact waitSound_of_taken seats hon hklist (by simp [writerChange_port])
          (by simp [writerChange_port]) ht
      · exact waitSound_of_taken seats hon hklist (by simp [preempt_port, writerChange_port])
          (by simp [preempt_port, writerChange_port]) ht
      · exact waitSound_of_joined seats hon hklist hw (fun e => hkwriter (e ▸ hw)) hroom
          (by simp [joinWaitList_port]) (by simp [joinWaitList_port]) ht
      · exact ht
    · have port := contend_port_ne (k := k) hp t
      exact waitSound_of_keyboard seats (by rw [port]) (by rw [port]) ht
  · have ht := h.queues hs p
    by_cases hp : p = a.port
    · subst hp
      rcases contend_cases k a t with ⟨-, e, -⟩ | ⟨w, hw, ⟨-, e, -⟩ | ⟨-, ⟨-, e, -⟩ | ⟨-, e, -⟩⟩⟩ <;> rw [e]
      · simp [writerChange_port]
      · simp [preempt_port, writerChange_port]
      · simpa [joinWaitList_port] using ht
      · exact ht
    · rw [contend_port_ne hp]; exact ht
  · rw [holder_eq_seat, holder_eq_seat, (seats j).2]
  · rw [seats.session_of_free (by rw [h.free j hj, hj]), h.free j hj]

/-- A session that is not attached may be placed on a port. -/
protected theorem placeSession (h : KeepsSeats s t) {k : SlotId} {p : PortId} {x : Target} {c g : Nat}
    (hk : (t.session k).attachment = none) : KeepsSeats s (placeSession k p x c g t) := by
  refine h.trans ⟨fun ht => ?_, fun ht => ht, sessionsCounted_of_holders rfl rfl fun j => .inr ?_,
    fun j hj => ?_⟩
  · refine writersSound_of_unlisted (unlisted_of_unattached ht hk) (fun j hj => ?_) (fun p => ⟨rfl, rfl⟩) ht
    rw [placeSession_session, if_neg hj]
  · rw [placeSession_session]
    split
    next hj => simp [Session.holder, hj, Function.comp_def]
    · rfl
  · rw [placeSession_session]
    split
    next hjk =>
      subst hjk
      cases hx : t.session j; simp_all
    · rfl

/-- ATTACH of a session that is not FREE (R67). -/
protected theorem serveAttach (h : KeepsSeats s t) {c : Ctx} {r : AttachRequest}
    (hlive : (t.session c.session).live ≠ none) : KeepsSeats s (serveAttach c r t) := by
  unfold serveAttach; split
  · exact h.reply
  next a _ =>
    refine .ite h.reply (.ite h.reply ?_)
    split
    · exact h.reply
    next hfree =>
      have unattached : (t.session c.session).attachment = none := by simpa using hfree
      have placed := h.placeSession (p := a.port) (x := a.target) (c := r.credit) (g := r.gather) unattached
      unfold attachTo; dsimp only
      refine .reply ?_
      split
      · refine placed.contend ?_ fun hs => unlisted_of_unattached (h.writers hs) unattached
        obtain ⟨l, hl⟩ := Option.ne_none_iff_exists'.1 hlive
        refine attachedTo_iff.2 ⟨.placed a.port (t.port a.port).ring a.target r.credit r.gather, ?_, rfl⟩
        rw [placeSession_session, if_pos rfl]
        simp [Session.attachment, hl]
      · exact placed

end KeepsSeats

end Sys2Proof.Machine
end

section
/-! PROOFS. The requests, the settings, the restarts and every command keep the seats; from this the soundness
of the writers, of the queues and of the session counts follows for every step. -/

namespace Sys2Proof.Machine

/-! ### OPEN (R58, R64) -/

/-- An entry that a frame resolves to is valid, where entry 0 is the wildcard while the commissioning flag is
set (R58, R61). -/
theorem resolve_valid {s : State} (hwild : s.commissioning → s.station 0 = Station.wildcard) {m : Mac}
    {e : StationId} (h : s.resolve m = some e) : (s.station e).valid = true := by
  unfold State.resolve at h
  split at h
  next e' he =>
    cases h
    have hnames : s.names e m = true := List.find?_some (p := fun e => s.names e m) he
    simp only [State.names, Bool.and_eq_true] at hnames
    exact hnames.1.1
  · split at h
    next hc => cases h; rw [hwild hc]; rfl
    · cases h

theorem freeSlot_free {s : State} {k : SlotId} (h : s.freeSlot = some k) : (s.session k).live = none := by
  simpa using List.find?_some (p := fun k => (s.session k).live.isNone) h

/-- Where one slot alone comes to be of an entry, the entry has one session more at most. -/
theorem sessionCount_le_succ {s t : State} {k : SlotId} (e : StationId)
    (h : ∀ j, j ≠ k → (t.session j).ofStation e = (s.session j).ofStation e) :
    t.sessionCount e ≤ s.sessionCount e + 1 := by
  obtain ⟨before, after, hslots⟩ := List.append_of_mem (List.mem_finRange k)
  have hnodup := hslots ▸ List.nodup_finRange 64
  rw [List.nodup_middle, List.nodup_cons, List.mem_append, not_or] at hnodup
  obtain ⟨⟨hbefore, hafter⟩, -⟩ := hnodup
  have same : ∀ xs : List SlotId, k ∉ xs →
      xs.countP (fun j => (t.session j).ofStation e) = xs.countP (fun j => (s.session j).ofStation e) :=
    fun xs hxs => List.countP_congr fun j hj => by rw [h j fun he => hxs (he ▸ hj)]
  simp only [State.sessionCount, allSlots, hslots, List.countP_append, List.countP_cons, same before hbefore,
    same after hafter]
  split <;> omega

/-- What a step keeps of the seats, whatever slots it fills. -/
structure SeatsStep (s t : State) : Prop where
  writers : s.writersSound → t.writersSound
  queues : s.queuesSound → t.queuesSound
  counted : s.sessionsCounted → t.sessionsCounted

theorem KeepsSeats.step {s t : State} (h : KeepsSeats s t) : SeatsStep s t :=
  ⟨h.writers, h.queues, h.counted⟩

theorem SeatsStep.trans {s t u : State} (h : SeatsStep s t) (g : SeatsStep t u) : SeatsStep s u :=
  ⟨g.writers ∘ h.writers, g.queues ∘ h.queues, g.counted ∘ h.counted⟩

/-- A FREE slot is opened for an entry that is valid and below its limit (R64). -/
theorem opened_seatsStep {s : State} {k : SlotId} {e : StationId} (hfree : (s.session k).live = none)
    (hvalid : s.sessionsCounted → (s.station e).valid = true)
    (hroom : s.sessionCount e < (s.station e).limit) (m : Mac) (idle : Nat) :
    SeatsStep s (s.modSession k (·.openedBy e (s.station e).rank m idle)) := by
  have others : ∀ j, j ≠ k →
      (s.modSession k (·.openedBy e (s.station e).rank m idle)).session j = s.session j := fun j hj => by
    rw [session_modSession, if_neg hj]
  refine ⟨fun hs => ?_, id, fun hs => ?_⟩
  · exact writersSound_of_unlisted (unlisted_of_unattached (k := k) hs (by simp [Session.attachment, hfree]))
      (fun j hj => by rw [others j hj]) (fun p => ⟨rfl, rfl⟩) hs
  · obtain ⟨hvalids, hcount, hwild⟩ := id hs
    refine ⟨fun j l hl => ?_, fun e' => ?_, hwild⟩
    · rw [session_modSession] at hl
      split at hl
      · obtain rfl : _ = l := by simpa [Session.openedBy] using hl
        exact ⟨hvalid hs, rfl⟩
      · exact hvalids j l hl
    · by_cases he : e' = e
      · subst he
        exact Nat.le_trans (sessionCount_le_succ e' fun j hj => by rw [others j hj]) hroom
      · refine Nat.le_trans (Nat.le_of_eq (List.countP_congr fun j _ => ?_)) (hcount e')
        rw [session_modSession]
        split
        next hj => simp [Session.ofStation, Session.openedBy, hj, hfree, Ne.symm he]
        · rfl

theorem serveOpen_seatsStep {c : Ctx} {s : State} {m : Mac} (hc : c.station = s.resolve m) :
    SeatsStep s (serveOpen c s) := by
  have answered := fun r => ((KeepsSeats.refl s).reply (c := c) (r := r) (vs := [])).step
  unfold serveOpen
  split
  · exact answered _
  next e he =>
    split
    · exact answered _
    next hroom =>
      split
      · exact answered _
      next k hk =>
        exact (opened_seatsStep (freeSlot_free hk)
          (fun ⟨_, _, hwild⟩ => resolve_valid hwild (hc.symm.trans he)) (Nat.not_le.1 hroom) _ _).trans
          ((KeepsSeats.refl _).reply).step

namespace KeepsSeats
variable {s t u : State}

/-! ### The requests of a session -/

protected theorem serveSeek (h : KeepsSeats s t) {c : Ctx} {x : Nat × Pos} :
    KeepsSeats s (serveSeek c x t) := by
  unfold serveSeek; split
  · exact h.modAttachment.reply
  · exact h.reply

/-- Items for which there is room are queued where the port has a writer (R20, R99, R102). -/
protected theorem appendItems (h : KeepsSeats s t) {p : PortId} {xs : List QueueItem}
    (hroom : xs.length ≤ (t.port p).room) (hwriter : (t.port p).writer ≠ none) :
    KeepsSeats s (appendItems p xs t) := by
  have queued : KeepsSeats s (t.modPort p fun q => { q with queue := q.queue ++ xs }) := by
    refine h.trans ⟨fun ht j => ?_, fun ht j => ?_,
      sessionsCounted_of_holders rfl rfl fun _ => .inr rfl, fun _ _ => rfl⟩
    · refine waitSound_of_keyboard (s := t) (t := t.modPort p fun q => { q with queue := q.queue ++ xs })
        (fun _ => ⟨rfl, rfl⟩) ?_ ?_ (ht j)
      all_goals by_cases hj : j = p <;> simp [hj]
    · by_cases hj : j = p
      · subst hj
        have hlen := (ht j).1
        unfold Port.room at hroom
        simp only [port_modPort_same, List.length_append]
        exact ⟨by omega, fun hnone => absurd hnone hwriter⟩
      · simp only [port_modPort, hj, if_false]
        exact ht j
  exact queued.txChoice

theorem writer_of_isWriter {k : SlotId} {a : Attachment} (ha : (t.session k).attachment = some a)
    (hk : t.isWriter k = true) : (t.port a.port).writer = some k := by
  simpa [State.isWriter, ha] using hk

protected theorem serveInput (h : KeepsSeats s t) {c : Ctx} {x : Word32 × List Byte} :
    KeepsSeats s (serveInput c x t) := by
  unfold serveInput; dsimp only; split
  · exact h
  next a ha =>
    split
    · exact h.modAttachment
    next hk =>
      have hwriter := writer_of_isWriter ha (by simpa using hk)
      refine .ite h.modAttachment ?_
      unfold writerInput; split
      · exact h.modAttachment
      · exact h.modAttachment
      · refine h.modAttachment.appendItems ?_ ?_
        · rw [List.length_map]
          exact List.length_take_le _ _
        · rw [port_modAttachment, hwriter]; simp

protected theorem serveBreak (h : KeepsSeats s t) {c : Ctx} : KeepsSeats s (serveBreak c t) := by
  unfold serveBreak; split
  · exact h.reply
  next a ha =>
    split
    · exact h.reply
    next hk =>
      have hwriter := writer_of_isWriter ha (by simpa using hk)
      refine .ite h.reply ?_
      split
      · exact h.reply
      next hroom => exact (h.appendItems (xs := [.breakToken]) (Nat.pos_of_ne_zero hroom) (by simp [hwriter])).reply

protected theorem serveRelease (h : KeepsSeats s t) {c : Ctx} {n : Nat} :
    KeepsSeats s (serveRelease c n t) := by
  unfold serveRelease; split
  · exact h.reply
  · exact .ite h.releaseHold.reply h.reply

protected theorem servePulse (h : KeepsSeats s t) {c : Ctx} {n : Nat} :
    KeepsSeats s (servePulse c n t) := by
  refine .ite h.reply ?_
  split
  · exact h.reply
  · refine .ite h.reply ?_
    split
    · exact h.reply
    · exact h.startPulse.reply

protected theorem sendData (h : KeepsSeats s t) {k : SlotId} : KeepsSeats s (sendData k t) := by
  unfold sendData; split
  · exact h
  · split
    · exact h
    · exact .sendFrame h.modAttachment.withUplink

/-! ### The requests of the key-in and watch units -/

protected theorem withEntry (h : KeepsSeats s t) {c : Ctx} {n : Nat} {act : KeyinId → State → State}
    (hact : ∀ e, KeepsSeats s (act e t)) : KeepsSeats s (withEntry c n act t) := by
  refine .ite h.reply ?_
  split
  · exact h.reply
  · exact .ite h.reply (hact _)

protected theorem startRequested (h : KeepsSeats s t) {c : Ctx} {e : KeyinId} :
    KeepsSeats s (startRequested c e t) :=
  .ite h.reply (.ite h.reply (.ite h.reply h.makePending.startStep.reply))

protected theorem stopRequested (h : KeepsSeats s t) {c : Ctx} {e : KeyinId} :
    KeepsSeats s (stopRequested c e t) := by
  refine .reply ?_
  split
  · exact h.stopEntry
  · exact h.endEntry
  · exact h

protected theorem armRequested (h : KeepsSeats s t) {c : Ctx} {e : KeyinId} :
    KeepsSeats s (armRequested c e t) :=
  .ite h.reply (.ite h.reply h.modKeyin.reply)

protected theorem rearmRequested (h : KeepsSeats s t) {c : Ctx} {i p : Nat} :
    KeepsSeats s (rearmRequested c i p t) := by
  unfold rearmRequested; split
  · exact h.reply
  · refine .ite h.reply ?_
    split
    · exact h.reply
    · split
      · exact .ite h.reply (.ite h.reply h.modPattern.reply)
      · exact .reply (h.forEach fun _ _ hu => hu.modPattern)

/-! ### Tables and settings -/

protected theorem applyComparator (h : KeepsSeats s t) {i : ComparatorId} {c : Comparator} :
    KeepsSeats s (applyComparator i c t) :=
  .ite (.ite h.modComparator.fireComparator h.modComparator) h.modComparator

protected theorem applyVector (h : KeepsSeats s t) {blocks : List Nat} :
    KeepsSeats s (applyVector blocks t) :=
  h.forEach fun _ _ hu => .ite hu hu.emptyRing

protected theorem setAddress (h : KeepsSeats s t) {m : Mac} : KeepsSeats s (setAddress m t).2 := by
  unfold setAddress; split
  · exact h.withUplink
  · exact h

protected theorem setFrameType (h : KeepsSeats s t) {n : Nat} : KeepsSeats s (setFrameType n t).2 := by
  unfold setFrameType; split
  · exact h.withUplink
  · exact h

protected theorem setMask (h : KeepsSeats s t) {m : Word32} : KeepsSeats s (setMask m t).2 := by
  unfold setMask; split
  · exact h.withNotice
  · exact h

protected theorem setDestination (h : KeepsSeats s t) {m : Mac} : KeepsSeats s (setDestination m t).2 :=
  h.withNotice

protected theorem setHoldoff (h : KeepsSeats s t) {n : Nat} : KeepsSeats s (setHoldoff n t).2 :=
  h.withNotice

protected theorem setSessionLimit (h : KeepsSeats s t) {n : Nat} : KeepsSeats s (setSessionLimit n t).2 :=
  .ite h (h.mapSessions rfl rfl rfl fun k => by
    constructor <;> simp [State.session, Session.seat, Function.comp_def])

protected theorem setWriterLimit (h : KeepsSeats s t) {n : Nat} : KeepsSeats s (setWriterLimit n t).2 :=
  .ite h (.forEach (h.same rfl rfl rfl rfl) fun _ _ hu => .ite hu.modAttachment hu)

/-! ### Start-up and the warm restart -/

protected theorem loadRecord (h : KeepsSeats s t) {x : LoadStep} {r : ImageRecord} :
    KeepsSeats s (loadRecord x r t) := by
  unfold loadRecord; split
  · exact h.setAddress.setFrameType.setMask.setDestination.setHoldoff.setSessionLimit.setWriterLimit
  · refine .ite ?_ h
    unfold loadStation; split
    · exact h.applyStation
    · exact h
  · exact .ite h.applyVector h
  · unfold loadProfile; split
    · exact h
    · split
      · exact h.modPort
      · exact h
  · unfold loadPattern; split
    · exact h.modPattern
    · exact h
  · unfold loadKeyin; split
    · exact h
    · split
      · exact h.modKeyin
      · exact h
  · refine .ite ?_ h
    unfold loadComparator; split
    · exact h.applyComparator
    · exact h
  · exact h

protected theorem loadSteps (h : KeepsSeats s t) {xs : List LoadStep} {rs : List ImageRecord} :
    KeepsSeats s (forEach xs (loadStep rs) t) :=
  h.forEach fun _ _ hu => hu.forEach fun _ _ hv => hv.loadRecord

protected theorem startPorts (h : KeepsSeats s t) : KeepsSeats s (forEach allPorts startPort t) :=
  h.forEach fun _ _ hu => .ite hu.profileSwitch hu

protected theorem openReceive (h : KeepsSeats s t) : KeepsSeats s (openReceive t) := h.same rfl rfl rfl rfl

protected theorem zeroCounts (h : KeepsSeats s t) : KeepsSeats s (zeroCounts t) :=
  h.trans (of_seatsKept (.refl t) (fun p => by simp [zeroCounts, State.port, Port.keepsKeyboard]) rfl rfl)

protected theorem rearmTables (h : KeepsSeats s t) : KeepsSeats s (rearmTables t) := h.same rfl rfl rfl rfl

protected theorem warmEffects (h : KeepsSeats s t) : KeepsSeats s (warmEffects t) := by
  have closed := h.forEach (xs := allSlots) (f := restartSession) fun _ _ hu => .ite hu.closeSession hu
  have stopped := closed.forEach (xs := allPorts) (f := restartQueues) fun p v hv =>
    (hv.modPort (p := p) (f := fun q => { q with queue := [], hold := false })
      fun _ => ⟨rfl, rfl, Nat.zero_le _⟩).cutPulse.forEach fun _ _ hw => hw.endRecord
  exact stopped.zeroCounts.rearmTables.forEach fun _ _ hu => .ite hu.clearWindows hu.profileSwitch

/-! ### The MANAGE operations -/

protected theorem managed (h : KeepsSeats s t) {isWrite : Bool} {c : Ctx} {act : State → State}
    (hact : KeepsSeats s (act t)) : KeepsSeats s (managed isWrite c act t) :=
  .ite h.reply (.ite h.reply hact)

protected theorem serveStationWrite (h : KeepsSeats s t) {c : Ctx} {x : StationWrite} :
    KeepsSeats s (serveStationWrite c x t) := by
  unfold serveStationWrite; split
  · exact h.applyStation.reply
  · exact h.reply

protected theorem servePatternWrite (h : KeepsSeats s t) {c : Ctx} {x : PatternWrite} :
    KeepsSeats s (servePatternWrite c x t) := by
  unfold servePatternWrite; split
  · exact .reply h.modPattern
  · exact h.reply

protected theorem serveComparatorWrite (h : KeepsSeats s t) {c : Ctx} {x : ComparatorWrite} :
    KeepsSeats s (serveComparatorWrite c x t) := by
  unfold serveComparatorWrite; split
  · exact h.applyComparator.reply
  · exact h.reply

protected theorem serveKeyinWrite (h : KeepsSeats s t) {c : Ctx} {x : KeyinWrite} :
    KeepsSeats s (serveKeyinWrite c x t) := by
  unfold serveKeyinWrite; split
  · exact h.reply
  · refine .ite h.reply ?_
    split
    · exact .reply h.modKeyin
    · exact h.reply

protected theorem serveProfileWriteActive (h : KeepsSeats s t) {c : Ctx} {x : Nat × RawProfile} :
    KeepsSeats s (serveProfileWriteActive c x t) := by
  unfold serveProfileWriteActive; split
  · exact h.reply
  · split
    · exact h.applyActive.reply
    · exact h.reply

protected theorem setStaged (h : KeepsSeats s t) {p : PortId} {f : Option Profile} :
    KeepsSeats s (setStaged p f t) := h.modPort

protected theorem serveProfileWriteStaged (h : KeepsSeats s t) {c : Ctx} {x : Nat × Option RawProfile} :
    KeepsSeats s (serveProfileWriteStaged c x t) := by
  unfold serveProfileWriteStaged; split
  · exact h.reply
  · split
    · exact h.setStaged.reply
    · split
      · exact h.setStaged.reply
      · exact h.reply

protected theorem serveAllocate (h : KeepsSeats s t) {c : Ctx} {blocks : List Nat} :
    KeepsSeats s (serveAllocate c blocks t) :=
  .ite h.applyVector.reply h.reply

protected theorem serveCounterReset (h : KeepsSeats s t) {c : Ctx} {x : Nat × Nat} :
    KeepsSeats s (serveCounterReset c x t) := by
  unfold serveCounterReset; split
  · exact h.counterEvent.reply
  · exact h.reply

protected theorem servePortRestart (h : KeepsSeats s t) {c : Ctx} {n : Nat} :
    KeepsSeats s (servePortRestart c n t) := by
  unfold servePortRestart; split
  · exact h.restartPort.reply
  · exact h.reply

protected theorem serveStationRead (h : KeepsSeats s t) {c : Ctx} {n : Nat} :
    KeepsSeats s (serveStationRead c n t) := by
  unfold serveStationRead; split <;> exact h.reply

protected theorem servePatternRead (h : KeepsSeats s t) {c : Ctx} {n : Nat} :
    KeepsSeats s (servePatternRead c n t) := by
  unfold servePatternRead; split <;> exact h.reply

protected theorem serveComparatorRead (h : KeepsSeats s t) {c : Ctx} {n : Nat} :
    KeepsSeats s (serveComparatorRead c n t) := by
  unfold serveComparatorRead; split <;> exact h.reply

protected theorem serveKeyinRead (h : KeepsSeats s t) {c : Ctx} {n : Nat} :
    KeepsSeats s (serveKeyinRead c n t) := by
  unfold serveKeyinRead; split <;> exact h.reply

protected theorem servePortStatus (h : KeepsSeats s t) {c : Ctx} {n : Nat} :
    KeepsSeats s (servePortStatus c n t) := by
  unfold servePortStatus; split <;> exact h.reply

end KeepsSeats

/-! ### Every command -/

/-- Where the command has a next state, the step to it keeps the seats. -/
def NextSeats (s : State) (o : Host.Outcome State Fault Refusal) : Prop := ∀ t, o = .next t → SeatsStep s t

theorem NextSeats.of_step {s t : State} (h : SeatsStep s t) : NextSeats s (.next t) := by
  rintro _ ⟨⟩
  exact h

theorem NextSeats.next {s t : State} (h : KeepsSeats s t) : NextSeats s (.next t) := .of_step h.step

theorem NextSeats.same (s : State) : NextSeats s (.next s) := .next (.refl s)

theorem NextSeats.ite {s t u : State} {c : Prop} [Decidable c] (ht : KeepsSeats s t)
    (hu : KeepsSeats s u) : NextSeats s (if c then .next t else .next u) := by
  split
  · exact .next ht
  · exact .next hu

theorem serve_seats {α : Type} {pick : Request → Option α} {act : Ctx → α → State → State}
    (h : ∀ {s t : State} (c : Ctx) (a : α), KeepsSeats s t → KeepsSeats s (act c a t)) (s : State) :
    NextSeats s (serve pick act s) := by
  intro t ht
  rcases serve_next ht with rfl | ⟨f, r, a, -, -, rfl⟩
  · exact (KeepsSeats.refl t).step
  · exact (h _ a (KeepsSeats.refl s).accept).settle.step

theorem serveManage_seats {α : Type} {isWrite : Bool} {pick : Manage → Option α}
    {act : Ctx → α → State → State}
    (h : ∀ {s t : State} (c : Ctx) (a : α), KeepsSeats s t → KeepsSeats s (act c a t)) (s : State) :
    NextSeats s (serveManage isWrite pick act s) :=
  serve_seats (fun c a ht => ht.managed (h c a ht)) s

theorem resolve_accept (f : RxFrame) (s : State) : (accept f s).resolve = s.resolve := by
  rw [accept_eq]; rfl

/-- An OPEN fills a FREE slot of a valid entry below its limit. -/
theorem execOpenSession_seats (s : State) : NextSeats s (execOpenSession s) := by
  intro t ht
  rcases serve_next ht with rfl | ⟨f, r, a, -, -, rfl⟩
  · exact (KeepsSeats.refl t).step
  · have served := serveOpen_seatsStep (c := s.ctx f r.op) (s := accept f s) (m := f.source)
      (by rw [resolve_accept]; rfl)
    exact ((KeepsSeats.refl s).accept.step.trans served).trans (KeepsSeats.refl _).settle.step

/-- The session of an ATTACH is not FREE, so that it may hold and wait for a keyboard. -/
theorem execAttach_seats (s : State) : NextSeats s (execAttach s) := by
  intro t ht
  rcases serve_next ht with rfl | ⟨f, r, a, htakes, hpick, rfl⟩
  · exact (KeepsSeats.refl t).step
  · cases r <;> simp only [attach?, Option.some.injEq, reduceCtorEq] at hpick
    next r' =>
      have live : ((accept f s).session f.session).live ≠ none := fun h =>
        live_of_takes htakes (show 3 ≤ 4 by decide) (((accept_seatsKept f s).free_iff _).1 h)
      exact ((KeepsSeats.refl s).accept.serveAttach (c := s.ctx f _) live).settle.step

/-- Where no session is other than FREE, the sessions are counted. -/
theorem sessionsCounted_of_free {s : State} (hfree : ∀ k, (s.session k).live = none)
    (hwild : s.commissioning → s.station 0 = Station.wildcard) : s.sessionsCounted := by
  refine ⟨fun k l hl => by simp [hfree k] at hl, fun e => ?_, hwild⟩
  have : s.sessionCount e = 0 := by simp [State.sessionCount, Session.ofStation, hfree]
  omega

theorem coldState_session (x : ColdInputs) (s : State) (k : SlotId) :
    (coldState x s).session k = ⟨0, none⟩ := by
  simp [coldState, State.session, State.reset, Session.reset]

theorem coldState_sound (x : ColdInputs) (s : State) :
    (coldState x s).writersSound ∧ (coldState x s).queuesSound ∧ (coldState x s).sessionsCounted := by
  refine ⟨fun p => ?_, fun p => ?_,
    sessionsCounted_of_free (fun k => by rw [coldState_session]) (fun h => by cases h)⟩
  · rw [State.waitSound, coldState_port]; simp [Port.reset]
  · rw [coldState_port]; simp [Port.reset]

/-- Steps 1 to 8 of R184 keep every slot FREE, every keyboard without a writer and the sessions counted. -/
theorem loadImage_sound (b : Bool) {s : State} (hwriters : s.writersSound) (hqueues : s.queuesSound)
    (hfree : ∀ k, s.session k = ⟨0, none⟩) :
    let t := loadImage b s
    (t.writersSound ∧ t.queuesSound ∧ t.sessionsCounted) ∧ ∀ k, t.session k = ⟨0, none⟩ := by
  have commissioned : ∀ u : State, KeepsSeats s u →
      (applyCommission b u).writersSound ∧ (applyCommission b u).queuesSound ∧
        (applyCommission b u).sessionsCounted ∧ ∀ k, (applyCommission b u).session k = ⟨0, none⟩ := by
    intro u hu
    have free : ∀ k, u.session k = ⟨0, none⟩ := fun k => by rw [hu.free k (by rw [hfree k]), hfree k]
    have same : (applyCommission b u).ports = u.ports ∧ (applyCommission b u).sessions = u.sessions := by
      unfold applyCommission; split <;> exact ⟨rfl, rfl⟩
    have free' : ∀ k, (applyCommission b u).session k = ⟨0, none⟩ := fun k => by
      rw [State.session, same.2]; exact free k
    have port : ∀ p, (applyCommission b u).port p = u.port p := fun p => by
      rw [State.port, same.1]; rfl
    refine ⟨fun p => ?_, fun p => ?_, ?_, free'⟩
    · exact waitSound_of_keyboard (fun k => by rw [free k, free' k]; exact ⟨rfl, rfl⟩) (by rw [port])
        (by rw [port]) (hu.writers hwriters p)
    · rw [port]; exact hu.queues hqueues p
    · refine sessionsCounted_of_free (fun k => by rw [free' k]) fun hc => ?_
      unfold applyCommission at hc ⊢
      split at hc
      next hb => simp [hb, State.station]
      · cases hc
  unfold loadImage
  dsimp only
  split
  · obtain ⟨hw, hq, hc, hf⟩ := commissioned _
      ((KeepsSeats.refl s).loadSteps (xs := earlySteps) (rs := imageRecordsOf s.memory))
    have late := (KeepsSeats.refl (applyCommission b
      (forEach earlySteps (loadStep (imageRecordsOf s.memory)) s))).loadSteps (xs := lateSteps)
      (rs := imageRecordsOf s.memory)
    exact ⟨⟨late.writers hw, late.queues hq, late.counted hc⟩, fun k => by
      rw [late.free k (by rw [hf k]), hf k]⟩
  · obtain ⟨hw, hq, hc, hf⟩ := commissioned _ (KeepsSeats.refl s).raise
    exact ⟨⟨hw, hq, hc⟩, hf⟩

theorem execColdReset_seats (x : ColdInputs) (s : State) : NextSeats s (execColdReset x s) := by
  obtain ⟨hwriters, hqueues, -⟩ := coldState_sound x s
  obtain ⟨⟨hw, hq, hc⟩, -⟩ :=
    loadImage_sound x.commission hwriters hqueues (coldState_session x s)
  have started : KeepsSeats (loadImage x.commission (coldState x s))
      (settle (startUp x.commission (coldState x s))) :=
    (KeepsSeats.refl _).startPorts.openReceive.settle
  exact .of_step ⟨fun _ => started.writers hw, fun _ => started.queues hq, fun _ => started.counted hc⟩

theorem execFrameReceive_seats (bytes : List Byte) (bad : Bool) (s : State) :
    NextSeats s (execFrameReceive bytes bad s) := by
  have h := KeepsSeats.refl s
  exact .next <| .ite h <| .ite h.countUplink <| .ite h.countUplink <| .ite h.countUplink <|
    .ite h.countUplink h.withUplink

theorem execMalformedFrame_seats (s : State) : NextSeats s (execMalformedFrame s) := by
  have h := KeepsSeats.refl s
  unfold execMalformedFrame; split
  · exact .same s
  · split
    · exact .next h.removeFrame.countUplink
    · exact .next h.removeFrame.countUplink
    · exact .next h.removeFrame.countUplink
    · exact .same s

theorem execUnknownKind_seats (s : State) : NextSeats s (execUnknownKind s) := by
  unfold execUnknownKind; split
  · split
    · exact .next (KeepsSeats.refl s).removeFrame.reply
    · exact .same s
  · exact serve_seats (fun c _ ht => ht.managed ht.reply) s

theorem execSaveDone_seats (s : State) : NextSeats s (execSaveDone s) := by
  unfold execSaveDone; split
  · exact .same s
  · exact .next (.raise (.withSaving (.refl s)))

theorem execSaveFailed_seats (s : State) : NextSeats s (execSaveFailed s) := by
  unfold execSaveFailed; split
  · exact .same s
  · exact .next (.raise (.withSaving (.refl s)))

theorem execReplyTurn_seats (s : State) : NextSeats s (execReplyTurn s) := by
  unfold execReplyTurn; split
  · exact .same s
  · exact .next (.sendFrame (.withUplink (.refl s)))

theorem execNoticeTurn_seats (s : State) : NextSeats s (execNoticeTurn s) := by
  unfold execNoticeTurn; split
  · split
    · exact .next (.sendFrame (.withNotice (.refl s)))
    · exact .same s
  · exact .same s

theorem execDataTurn_seats (s : State) : NextSeats s (execDataTurn s) := by
  unfold execDataTurn; split
  · split
    · exact .next (KeepsSeats.refl s).sendData.settle
    · exact .same s
  · exact .same s

theorem execGatherTimerExpiry_seats (k : SlotId) (s : State) : NextSeats s (execGatherTimerExpiry k s) :=
  .next ((KeepsSeats.refl s).modAttachment fun a => by split <;> rfl)

theorem execDeadThreshold_seats (p : PortId) (s : State) : NextSeats s (execDeadThreshold p s) := by
  unfold execDeadThreshold; split
  · exact .next (KeepsSeats.refl s).deadFromLive.settle
  · exact .next (KeepsSeats.refl s).enterDead.settle
  · exact .same s

theorem execByteSent_seats (p : PortId) (b : Bool) (s : State) : NextSeats s (execByteSent p b s) := by
  unfold execByteSent; split
  · exact .next (KeepsSeats.refl s).finishByte.settle
  · exact .same s

theorem execBreakTokenEnd_seats (p : PortId) (s : State) : NextSeats s (execBreakTokenEnd p s) := by
  unfold execBreakTokenEnd; split
  · exact .next (KeepsSeats.refl s).itemEnd.freeTransmitter.settle
  · exact .same s

/-- Every command keeps the writers, the queues and the session counts sound. -/
theorem exec_seats (c : Instr) (s : State) : NextSeats s (exec c s) := by
  have h := KeepsSeats.refl s
  cases c with
  | coldReset x => exact execColdReset_seats x s
  | frameReceive bytes bad => exact execFrameReceive_seats bytes bad s
  | malformedFrame => exact execMalformedFrame_seats s
  | unknownKind => exact execUnknownKind_seats s
  | probe =>
    change NextSeats s (execProbe s)
    exact serve_seats (fun _ _ ht => ht.reply) s
  | openSession => exact execOpenSession_seats s
  | closeSession =>
    change NextSeats s (execCloseSession s)
    exact serve_seats (fun _ _ ht => ht.closeSession.reply) s
  | attach => exact execAttach_seats s
  | detach =>
    change NextSeats s (execDetach s)
    exact serve_seats (fun _ _ ht => ht.detachSession.reply) s
  | seek =>
    change NextSeats s (execSeek s)
    exact serve_seats (fun _ _ ht => ht.serveSeek) s
  | credit =>
    change NextSeats s (execCredit s)
    exact serve_seats (fun _ _ ht => ht.modAttachment) s
  | input =>
    change NextSeats s (execInput s)
    exact serve_seats (fun _ _ ht => ht.serveInput) s
  | breakRequest =>
    change NextSeats s (execBreakRequest s)
    exact serve_seats (fun _ _ ht => ht.serveBreak) s
  | release =>
    change NextSeats s (execRelease s)
    exact serve_seats (fun _ _ ht => ht.serveRelease) s
  | pulse =>
    change NextSeats s (execPulse s)
    exact serve_seats (fun _ _ ht => ht.servePulse) s
  | keyinStart =>
    change NextSeats s (execKeyinStart s)
    exact serve_seats (fun _ _ ht => ht.withEntry fun _ => ht.startRequested) s
  | keyinStop =>
    change NextSeats s (execKeyinStop s)
    exact serve_seats (fun _ _ ht => ht.withEntry fun _ => ht.stopRequested) s
  | arm =>
    change NextSeats s (execArm s)
    exact serve_seats (fun _ _ ht => ht.withEntry fun _ => ht.armRequested) s
  | rearm =>
    change NextSeats s (execRearm s)
    exact serve_seats (fun _ _ ht => .ite ht.reply ht.rearmRequested) s
  | stationWrite =>
    change NextSeats s (execStationWrite s)
    exact serveManage_seats (fun _ _ ht => ht.serveStationWrite) s
  | stationRead =>
    change NextSeats s (execStationRead s)
    exact serveManage_seats (fun _ _ ht => ht.serveStationRead) s
  | patternWrite =>
    change NextSeats s (execPatternWrite s)
    exact serveManage_seats (fun _ _ ht => ht.servePatternWrite) s
  | patternRead =>
    change NextSeats s (execPatternRead s)
    exact serveManage_seats (fun _ _ ht => ht.servePatternRead) s
  | comparatorWrite =>
    change NextSeats s (execComparatorWrite s)
    exact serveManage_seats (fun _ _ ht => ht.serveComparatorWrite) s
  | comparatorRead =>
    change NextSeats s (execComparatorRead s)
    exact serveManage_seats (fun _ _ ht => ht.serveComparatorRead) s
  | keyinWrite =>
    change NextSeats s (execKeyinWrite s)
    exact serveManage_seats (fun _ _ ht => ht.serveKeyinWrite) s
  | keyinRead =>
    change NextSeats s (execKeyinRead s)
    exact serveManage_seats (fun _ _ ht => ht.serveKeyinRead) s
  | profileWriteActive =>
    change NextSeats s (execProfileWriteActive s)
    exact serveManage_seats (fun _ _ ht => ht.serveProfileWriteActive) s
  | profileWriteStaged =>
    change NextSeats s (execProfileWriteStaged s)
    exact serveManage_seats (fun _ _ ht => ht.serveProfileWriteStaged) s
  | portStatus =>
    change NextSeats s (execPortStatus s)
    exact serveManage_seats (fun _ _ ht => ht.servePortStatus) s
  | allocate =>
    change NextSeats s (execAllocate s)
    exact serveManage_seats (fun _ _ ht => ht.serveAllocate) s
  | allocationRead =>
    change NextSeats s (execAllocationRead s)
    exact serveManage_seats (fun _ _ ht => ht.reply) s
  | counterReset =>
    change NextSeats s (execCounterReset s)
    exact serveManage_seats (fun _ _ ht => ht.serveCounterReset) s
  | portRestart =>
    change NextSeats s (execPortRestart s)
    exact serveManage_seats (fun _ _ ht => ht.servePortRestart) s
  | stationAddressWrite =>
    change NextSeats s (execStationAddressWrite s)
    exact serveManage_seats (fun _ _ ht => ht.setAddress.reply) s
  | frameTypeWrite =>
    change NextSeats s (execFrameTypeWrite s)
    exact serveManage_seats (fun _ _ ht => ht.setFrameType.reply) s
  | noticeDestinationWrite =>
    change NextSeats s (execNoticeDestinationWrite s)
    exact serveManage_seats (fun _ _ ht => ht.setDestination.reply) s
  | noticeMaskWrite =>
    change NextSeats s (execNoticeMaskWrite s)
    exact serveManage_seats (fun _ _ ht => ht.setMask.reply) s
  | holdoffWrite =>
    change NextSeats s (execHoldoffWrite s)
    exact serveManage_seats (fun _ _ ht => ht.setHoldoff.reply) s
  | sessionIdleLimitWrite =>
    change NextSeats s (execSessionIdleLimitWrite s)
    exact serveManage_seats (fun _ _ ht => ht.setSessionLimit.reply) s
  | writerIdleLimitWrite =>
    change NextSeats s (execWriterIdleLimitWrite s)
    exact serveManage_seats (fun _ _ ht => ht.setWriterLimit.reply) s
  | settingsRead =>
    change NextSeats s (execSettingsRead s)
    exact serveManage_seats (fun _ _ ht => ht.reply) s
  | noticeRead =>
    change NextSeats s (execNoticeRead s)
    exact serveManage_seats (fun _ _ ht => ht.reply) s
  | save =>
    change NextSeats s (execSave s)
    exact serveManage_seats (fun _ _ ht => ht.withSaving.reply) s
  | saveDone => exact execSaveDone_seats s
  | saveFailed => exact execSaveFailed_seats s
  | warmRestart =>
    change NextSeats s (execWarmRestart s)
    exact serveManage_seats (fun _ _ ht => ht.reply.warmEffects) s
  | replyTurn => exact execReplyTurn_seats s
  | noticeTurn => exact execNoticeTurn_seats s
  | dataTurn => exact execDataTurn_seats s
  | gatherTimerExpiry k => exact execGatherTimerExpiry_seats k s
  | sessionIdleExpiry k => exact .ite h.closeSession.raise.settle h
  | writerIdleExpiry k => exact .ite h.demoteWriter.settle h
  | holdoffTimerExpiry => exact .next h.withNotice
  | byteStored p data b order => exact .ite h.storeCharacter.settle h
  | framingError p => exact .ite h.modPort.counterEvent.settle h
  | breakRecorded p => exact .ite h.recordBreak.settle h
  | deadThreshold p => exact execDeadThreshold_seats p s
  | liveQualification p => exact .ite h.leaveDead.settle h
  | detectorRun p edge mark => exact .ite h.acceptEdge.settle h.modPort
  | detectionWindowExpiry p => exact .ite h.modPort h
  | switchingEnd p => exact .next h.settleSwitching.settle
  | transmitterChoice p high => exact .next h.modPort.txChoice.settle
  | byteSent p b => exact execByteSent_seats p b s
  | breakTokenEnd p => exact execBreakTokenEnd_seats p s
  | intervalTimerExpiry e => exact .next h.intervalExpiry.settle
  | ctsAssert p => exact .ite h.modPort.txChoice.settle h.modPort
  | pulseTimerExpiry p => exact .ite h.endPulse.settle h
  | senseSample p high => exact .ite h.takeSample.settle h.modPort
  | spaceRunEnd p => exact .next h.modPort

/-- The passing of a millisecond leaves every session in its seat. -/
theorem tick_keepsSeats (s : State) : KeepsSeats s (tick s) := by
  refine .of_seatsKept (fun k => ?_) (fun p => by simp [tick, State.port, Port.tick, Port.keepsKeyboard]) rfl rfl
  simp only [tick, State.session, Fin.getElem_fin, tabMap_get]
  refine ⟨rfl, ?_⟩
  simp [Session.seat, Session.tick, Function.comp_def, Attachment.tick]

theorem step_seats {s t : State} (h : step s = .next t) : SeatsStep s t := by
  unfold step at h
  split at h
  · cases h
    exact (tick_keepsSeats s).step
  next c rest _ =>
    exact ((KeepsSeats.refl s).same (u := { s with pending := rest }) rfl rfl rfl rfl).step.trans
      (exec_seats c _ t h)

/-- Settles O10: a session comes to the keyboard or to the wait list of its own port alone, leaves them before
it ends, and no item is queued beyond the room or without a writer. -/
theorem writersAndWaitListsStaySound : Obligations.WritersAndWaitListsStaySound :=
  fun _ _ hwriters hqueues h => ⟨(step_seats h).writers hwriters, (step_seats h).queues hqueues⟩

/-- Settles O11: OPEN alone adds a session, below the limit of a valid entry, and a write of an entry closes
its sessions. -/
theorem sessionsStayWithinTheirLimits : Obligations.SessionsStayWithinTheirLimits :=
  fun _ _ hs h => (step_seats h).counted hs

end Sys2Proof.Machine
end

section
/-! PROOFS. A taken frame that draws no service, OPEN, and the ends of sessions: what leaves the wait list,
and what the release of a writer gives. -/

namespace Sys2Proof.Machine

/-! ### The five checks of a taken frame (R173) -/

section
variable {s : State} {f : RxFrame}

theorem kindServed_iff : f.kindServed = true ↔ 1 ≤ f.kind.toNat ∧ f.kind.toNat ≤ 16 := by
  simp [RxFrame.kindServed]

theorem classify_malformed (h : ¬ (f.byteAt 0 = 1 ∧ f.lengthAgrees = true)) : s.classify f = .malformed := by
  have : f.byteAt 0 ≠ 1 ∨ (!f.lengthAgrees) = true := by
    rw [Bool.not_eq_true', ← Bool.not_eq_true]
    exact not_and_or.1 h
  exact if_pos this

section
variable (hgood : f.byteAt 0 = 1 ∧ f.lengthAgrees = true)
include hgood

theorem classify_unknownKind (hkind : f.kindServed = false) : s.classify f = .unknownKind := by
  simp [State.classify, hgood, hkind]

variable (hkind : f.kindServed = true)
include hkind

theorem classify_notMine (hcast : (f.broadcast && !f.isProbe) = true) : s.classify f = .notMine := by
  simp only [State.classify, hgood, hkind, hcast]; rfl

variable (hours : (f.broadcast && !f.isProbe) = false)
include hours

theorem classify_wrongBody (hbody : parseRequest f.kind f.body = none) : s.classify f = .malformed := by
  simp only [State.classify, hgood, hkind, hours, hbody]; rfl

theorem classify_stale (hbody : parseRequest f.kind f.body ≠ none)
    (hhandle : (f.needsNoHandle || s.handleValid f) = false) : s.classify f = .stale := by
  obtain ⟨r, hr⟩ := Option.ne_none_iff_exists'.1 hbody
  simp only [State.classify, hgood, hkind, hours, hr, hhandle]; rfl

end

theorem malformedFrame_drops (hf : s.oldestFrame = some f) :
    (s.classify f = .malformed →
      exec .malformedFrame s = .next ((removeFrame s).countUplink (·.countMalformed))) ∧
    (s.classify f = .notMine →
      exec .malformedFrame s = .next ((removeFrame s).countUplink (·.countNotMine))) ∧
    (s.classify f = .stale →
      exec .malformedFrame s = .next ((removeFrame s).countUplink (·.countStale))) := by
  refine ⟨fun h => ?_, fun h => ?_, fun h => ?_⟩
  all_goals
    show execMalformedFrame s = _
    simp only [execMalformedFrame, hf, h]

theorem unknownKind_answers (hf : s.oldestFrame = some f) (h : s.classify f = .unknownKind) :
    exec .unknownKind s = .next (reply (s.ctx f none) .unknownKind [] (removeFrame s)) := by
  show execUnknownKind s = _
  simp only [execUnknownKind, hf, Option.map_some, h]

end

/-- Settles O22: each clause is the check of R173 that the frame fails, with those before it passed. -/
theorem takenFrameIsChecked : Obligations.TakenFrameIsChecked := by
  intro s f hf taken good served
  obtain ⟨malformed, notMine, stale⟩ := malformedFrame_drops hf
  have probe : f.isProbe = true ↔ f.kind = 1 := beq_iff_eq
  refine ⟨fun hbad => malformed (classify_malformed hbad), fun hgood hkind => ?_,
    fun hgood hkind hcast hprobe => notMine ?_, fun hgood hkind hours hbody => malformed ?_,
    fun hgood hkind hcast hbody hprobe hopen hhandle => stale ?_⟩
  · exact unknownKind_answers hf
      (classify_unknownKind hgood (Bool.eq_false_iff.2 (mt kindServed_iff.1 hkind)))
  · refine classify_notMine hgood (kindServed_iff.2 hkind) ?_
    rw [hcast, Bool.eq_false_iff.2 (mt probe.1 hprobe)]; rfl
  · refine classify_wrongBody hgood (kindServed_iff.2 hkind) ?_ hbody
    rcases hours with h | h
    · rw [h]; rfl
    · rw [probe.2 h, Bool.not_true, Bool.and_false]
  · refine classify_stale hgood (kindServed_iff.2 hkind) (by rw [hcast]; rfl) hbody ?_
    rw [hhandle, Bool.or_false]
    exact Bool.or_eq_false_iff.2 ⟨beq_eq_false_iff_ne.2 hprobe, beq_eq_false_iff_ne.2 hopen⟩

/-! ### States whose gather timers agree -/

/-- Timers that agree stay so where attachments only end. -/
theorem settled_of_attachments {s t : State} (hs : s.settled) (hports : t.ports = s.ports)
    (h : ∀ k, ∀ a ∈ (t.session k).attachment, a ∈ (s.session k).attachment) : t.settled := by
  intro k a ha
  rw [State.port, hports]
  exact hs k a (h k a ha)

theorem modSession_settled {s : State} (hs : s.settled) (k : SlotId) {f : Session → Session}
    (hf : (f (s.session k)).attachment = none) : (s.modSession k f).settled := by
  refine settled_of_attachments hs rfl fun j a ha => ?_
  rw [session_modSession] at ha
  split at ha
  · rw [hf] at ha; cases ha
  · exact ha

/-! ### OPEN (R58, R64) -/

theorem freeSlot_eq_some {s : State} {k : SlotId} (hfree : (s.session k).live = none)
    (hlowest : ∀ j < k, (s.session j).live ≠ none) : s.freeSlot = some k := by
  refine List.find?_eq_some_iff_getElem.2 ⟨by simp [hfree], k.val, by simp [allSlots], by simp [allSlots],
    fun j hj => ?_⟩
  simpa [allSlots, Option.isSome_iff_ne_none] using hlowest ⟨j, by omega⟩ hj

theorem freeSlot_eq_none {s : State} (h : ∀ k : SlotId, (s.session k).live ≠ none) : s.freeSlot = none := by
  simpa [State.freeSlot, allSlots] using h

section
variable {c : Ctx} {s : State} {e : StationId}

theorem serveOpen_unresolved (h : c.station = none) : serveOpen c s = reply c .refusedAccess [] s := by
  simp only [serveOpen, h]

theorem serveOpen_limited (h : c.station = some e) (hlimit : (s.station e).limit ≤ s.sessionCount e) :
    serveOpen c s = reply c .limit [] s := by
  simp only [serveOpen, h, if_pos hlimit]

theorem serveOpen_full (h : c.station = some e) (hlimit : s.sessionCount e < (s.station e).limit)
    (hslots : s.freeSlot = none) : serveOpen c s = reply c .noSlot [] s := by
  simp only [serveOpen, h, if_neg (Nat.not_le.2 hlimit), hslots]

/-- OPEN takes the lowest FREE slot (R64). -/
theorem serveOpen_opens (h : c.station = some e) (hlimit : s.sessionCount e < (s.station e).limit)
    {k : SlotId} (hslot : s.freeSlot = some k) : serveOpen c s =
      reply (c.withHandle k ((s.session k).generation + 1)) .ok (openValues (s.station e) s.sessionLimit)
        (s.modSession k (·.openedBy e (s.station e).rank c.source (s.sessionLimit * 1000))) := by
  simp only [serveOpen, h, if_neg (Nat.not_le.2 hlimit), hslot, session_modSession, if_true]
  rfl

end

/-- A frame that needs no handle leaves the sessions as they are. -/
theorem touched_of_open {s : State} {f : RxFrame} (h : s.takes f .openSession) :
    s.touched f = s.sessions :=
  if_pos ((needsNoHandle_of_takes h).trans rfl)

/-- Settles O26: the branches of OPEN, each on a state with the tables of the one before the frame. -/
theorem openServed : Obligations.OpenServed := by
  intro s f hs htakes
  have served : exec .openSession s = .next (settle (serveOpen (s.ctx f none) (accept f s))) :=
    serve_of_takes (act := fun c (_ : Unit) => serveOpen c) htakes rfl
  have answered : ∀ r, serveOpen (s.ctx f none) (accept f s) = reply (s.ctx f none) r [] (accept f s) →
      exec .openSession s = .next (s.afterFrame f [f.answer none r []]) := fun r h => by
    rw [served, h, settle_reply_of_settled (accept_settled hs f), reply_accept]
  have same : accept f s = { s with uplink := { s.uplink with
      rxQueue := s.uplink.rxQueue.tail, counters := s.uplink.counters.countOk } } := by
    rw [accept_eq, touched_of_open htakes]
  have count : ∀ e, (accept f s).sessionCount e = s.sessionCount e := fun e => by rw [same]; rfl
  have station : ∀ e, (accept f s).station e = s.station e := fun e => by rw [same]; rfl
  have slot : (accept f s).freeSlot = s.freeSlot := by rw [same]; rfl
  refine ⟨fun h => answered _ (serveOpen_unresolved h), fun e he => ⟨fun hlimit => answered _ ?_,
    fun hlimit => ⟨fun hslots => answered _ ?_, fun k hfree hlowest => ?_⟩⟩⟩
  · exact serveOpen_limited he (by rw [count, station]; exact hlimit)
  · exact serveOpen_full he (by rw [count, station]; exact hlimit) (by rw [slot, freeSlot_eq_none hslots])
  · rw [served, serveOpen_opens he (by rw [count, station]; exact hlimit)
      (by rw [slot, freeSlot_eq_some hfree hlowest]),
      settle_reply_of_settled (modSession_settled (accept_settled hs f) k rfl), same]
    simp only [State.afterFrame, touched_of_open htakes]
    rfl

end Sys2Proof.Machine
end

section
/-! PROOFS. The end of a session and of an attachment: quietly, off a wait list, and with the release of the
writer. -/

namespace Sys2Proof.Machine

/-! ### What the leaving of a port reads, and what it settles -/

theorem record_congr {s t : State} {k : SlotId} (h : t.session k = s.session k) : t.record k = s.record k := by
  rw [State.record, State.record, h]

theorem attachment_eq_none_of_record {s t : State} {k : SlotId} (h : t.record k = s.record k) :
    (t.session k).attachment = none ↔ (s.session k).attachment = none := by
  have := congrArg Session.attachment h
  rw [State.record, State.record, mapAttachment_attachment, mapAttachment_attachment] at this
  rw [← Option.map_eq_none_iff (f := Attachment.unmarked), this, Option.map_eq_none_iff]

/-- In u stand the ports, the attachments, the notice unit and the writer idle limit of s. -/
structure SameHolders (s u : State) : Prop where
  ports : u.ports = s.ports
  attachment : ∀ k, (u.session k).attachment = (s.session k).attachment
  notice : u.notice = s.notice
  idle : u.freshWriterIdle = s.freshWriterIdle

theorem SameHolders.refl (s : State) : SameHolders s s := ⟨rfl, fun _ => rfl, rfl, rfl⟩

theorem accept_sameHolders (f : RxFrame) (s : State) : SameHolders s (accept f s) :=
  ⟨by rw [accept_eq], touched_attachment f s, by rw [accept_eq], by rw [accept_eq]; rfl⟩

namespace SameHolders
variable {s u : State} (h : SameHolders s u)
include h

theorem port (p : PortId) : u.port p = s.port p := by rw [State.port, h.ports]; rfl

theorem flagsOf (k : SlotId) : u.flagsOf k = s.flagsOf k := by rw [State.flagsOf, h.attachment]; rfl

end SameHolders

/-- The session k has left its port between u and t, whatever became of k itself. -/
structure PortLeft (k : SlotId) (u t : State) : Prop where
  ports : t.ports = (leavePort k u).ports
  others : ∀ j, j ≠ k → t.record j = (leavePort k u).record j

theorem closeSession_portLeft (k : SlotId) (u : State) : PortLeft k u (closeSession k u) :=
  ⟨rfl, fun j hj => record_congr (by rw [closeSession_session, if_neg hj])⟩

theorem detachSession_portLeft (k : SlotId) (u : State) : PortLeft k u (detachSession k u) :=
  ⟨rfl, fun j hj => record_congr (by rw [detachSession_session, if_neg hj])⟩

namespace PortLeft
variable {k : SlotId} {u t : State} (h : PortLeft k u t)
include h

theorem settle : PortLeft k u (settle t) :=
  ⟨h.ports, fun j hj => by rw [settle_record]; exact h.others j hj⟩

theorem reply (c : Ctx) (r : Result) (vs : List Byte) : PortLeft k u (reply c r vs t) :=
  ⟨h.ports, h.others⟩

theorem raise (c : Cause) (p : Option PortId) (arg : Word16) : PortLeft k u (raise c p arg t) :=
  ⟨by rw [raise_ports, h.ports], fun j hj => by rw [raise_record]; exact h.others j hj⟩

theorem port (p : PortId) : t.port p = (leavePort k u).port p := by rw [State.port, h.ports]; rfl

end PortLeft

/-! ### Leaving a wait list (R74) -/

theorem leaveWaitList_ports {s : State} {p : PortId} {k : SlotId} (h : k ∈ (s.port p).waitList) :
    (leaveWaitList p k s).ports =
      s.ports.set p { s.port p with waitList := (s.port p).waitList.erase k } := by
  simp only [leaveWaitList, if_pos h]
  rw [forEach_setWaitPlace_ports]; rfl

/-- No session stands below itself on a list without repetitions. -/
theorem not_mem_belowIn {k : SlotId} {w : List SlotId} (h : w.Nodup) : k ∉ belowIn k w := by
  induction w with
  | nil => simp [belowIn]
  | cons j w ih =>
    obtain ⟨hj, hw⟩ := List.nodup_cons.1 h
    by_cases hjk : j = k
    · subst hjk
      rwa [belowIn_head]
    · rw [belowIn, List.idxOf_cons_ne _ hjk]
      exact ih hw

theorem flagsOf_waitFlagged {s t : State} {j : SlotId}
    (h : t.record j = (s.record j).mapAttachment Attachment.waitFlagged) :
    t.flagsOf j = (s.flagsOf j).map fun g => { g with waitPlace := true } := by
  rw [flagsOf_eq_record, flagsOf_eq_record, h, mapAttachment_attachment, Option.map_map, Option.map_map]
  rfl

theorem flagsOf_congr {s t : State} {j : SlotId} (h : t.record j = s.record j) : t.flagsOf j = s.flagsOf j := by
  rw [flagsOf_eq_record, flagsOf_eq_record, h]

/-- A session that waited leaves the wait list of its port alone behind (R65, R71, R74). -/
theorem leftWaiting_of_portLeft {s u t : State} {k : SlotId} {p : PortId} (hs : SameHolders s u)
    (hsound : u.writersSound) (hk : k ∈ (s.port p).waitList) (h : PortLeft k u t) : s.leftWaiting t p k := by
  have hk' : k ∈ (u.port p).waitList := by rwa [hs.port]
  have hnodup : (s.port p).waitList.Nodup := by
    obtain ⟨-, -, hnodup, -⟩ := hsound p
    rwa [hs.port] at hnodup
  have hleft := leavePort_of_waiting hsound hk'
  refine ⟨?_, fun j hj => ?_, fun j hjk hj => ?_⟩
  · rw [h.ports, hleft, leaveWaitList_ports hk', hs.ports, hs.port, hnodup.erase_eq_filter]
  · have hjk : j ≠ k := fun e => not_mem_belowIn hnodup (e ▸ hj)
    rw [← hs.flagsOf]
    refine flagsOf_waitFlagged ?_
    rw [h.others j hjk, hleft, leaveWaitList_record, hs.port]
    exact if_pos hj
  · rw [← hs.flagsOf]
    refine flagsOf_congr ?_
    rw [h.others j hjk, hleft, leaveWaitList_record, hs.port]
    exact if_neg hj

/-! ### The release of a writer (R77, R78) -/

theorem releaseWriter_noticed (p : PortId) (s : State) :
    s.writerChangeNoticed (releaseWriter p s) p (s.port p).waitList.head? := by
  cases hw : (s.port p).waitList with
  | nil =>
    rw [releaseWriter_of_nil hw]
    exact writerChange_noticed p _ none s
  | cons j w =>
    have noticed := writerChange_noticed p (s.port p).writer (some j) (leaveWaitList p j s)
    rw [State.writerChangeNoticed, leaveWaitList_notice, leaveWaitList_port, if_pos rfl] at noticed
    rw [releaseWriter_of_cons hw]
    exact noticed

/-- A writer that leaves its port releases it (R65, R71, R77). -/
theorem released_of_portLeft {s u t : State} {k : SlotId} {p : PortId} (hs : SameHolders s u)
    (hsound : u.writersSound) (hk : (s.port p).writer = some k) (h : PortLeft k u t)
    (hnotice : u.writerChangeNoticed t p (u.port p).waitList.head?) : s.released t p := by
  have hleft : leavePort k u = releaseWriter p u := leavePort_of_writer hsound (by rw [hs.port, hk])
  have port : ∀ q, t.port q = (releaseWriter p u).port q := fun q => by rw [h.port, hleft]
  obtain ⟨-, hwaiting, hnodup, -⟩ := hsound p
  simp only [hs.port] at hwaiting hnodup
  have hoff : k ∉ (s.port p).waitList := fun hj => (hwaiting k hj).2 hk
  have record : ∀ j, j ≠ k → t.record j = (releaseWriter p u).record j := fun j hj => by
    rw [h.others j hj, hleft]
  have writes : ∀ j, j ≠ k → (s.port p).writer ≠ some j := fun j hj => by
    rw [hk]; exact fun e => hj (Option.some.inj e).symm
  refine ⟨?_, fun q hq => ?_, fun j hj => ?_, fun j hj => ?_, fun j hj hjk => ?_, ?_⟩
  · rw [port, releaseWriter_port, if_pos rfl, hs.port]
  · rw [port, releaseWriter_port, if_neg hq, hs.port]
  · obtain ⟨w, hw⟩ := List.head?_eq_some_iff.1 (show (s.port p).waitList.head? = some j from hj)
    rw [hw] at hoff hnodup
    have hjk : j ≠ k := fun e => hoff (e ▸ List.mem_cons_self)
    have hjw : j ∉ w := (List.nodup_cons.1 hnodup).1
    rw [← map_record_attachment t j, ← hs.attachment, ← map_record_attachment u j, record j hjk,
      releaseWriter_record, hs.port, hs.idle, hw]
    simp only [List.tail_cons, hjw, if_false, writes j hjk, List.head?_cons, if_true,
      mapAttachment_attachment, Option.map_map]
    rfl
  · have hmem : j ∈ (s.port p).waitList := List.mem_of_mem_tail hj
    have hjk : j ≠ k := fun e => hoff (e ▸ hmem)
    have hhead : (s.port p).waitList.head? ≠ some j := by
      cases hw : (s.port p).waitList with
      | nil => simp
      | cons i w =>
        rw [hw] at hj hnodup
        exact fun e => (List.nodup_cons.1 hnodup).1 (Option.some.inj e ▸ hj)
    rw [← hs.flagsOf]
    refine flagsOf_waitFlagged ?_
    rw [record j hjk, releaseWriter_record, hs.port]
    simp only [if_pos hj, if_neg hhead, if_neg (writes j hjk)]
  · have hjk' : j ≠ k := fun e => hjk (e ▸ hk)
    rw [← hs.flagsOf]
    refine flagsOf_congr ?_
    have hhead : (s.port p).waitList.head? ≠ some j := fun e => hj (List.mem_of_mem_head? e)
    rw [record j hjk', releaseWriter_record, hs.port]
    simp only [if_neg hjk, if_neg (fun e => hj (List.mem_of_mem_tail e)), if_neg hhead]
  · intro hmask hqueue
    rw [← hs.notice] at hmask hqueue
    rw [← hs.port]
    exact hnotice hmask hqueue

end Sys2Proof.Machine
end

section
/-! PROOFS. CLOSE, DETACH and the two idle expiries. -/

namespace Sys2Proof.Machine

/-! ### The commands that end a session or its keyboard -/

theorem execCloseSession_of_takes {s : State} {f : RxFrame} (h : s.takes f .closeSession) :
    exec .closeSession s =
      .next (settle (reply (s.ctx f none) .ok [] (closeSession f.session (accept f s)))) :=
  serve_of_takes (act := fun c (_ : Unit) s => reply c .ok [] (closeSession c.session s)) h rfl

theorem execDetach_of_takes {s : State} {f : RxFrame} (h : s.takes f .detach) :
    exec .detach s =
      .next (settle (reply (s.ctx f none) .ok [] (detachSession f.session (accept f s)))) :=
  serve_of_takes (act := fun c (_ : Unit) s => reply c .ok [] (detachSession c.session s)) h rfl

theorem sessionIdleOver_iff {s : State} {k : SlotId} :
    s.sessionIdleOver k = true ↔ (s.session k).live.map (·.idle) = some 0 := by
  unfold State.sessionIdleOver
  cases (s.session k).live <;> simp

theorem execSessionIdleExpiry_of_over {s : State} {k : SlotId}
    (h : (s.session k).live.map (·.idle) = some 0) : exec (.sessionIdleExpiry k) s =
      .next (settle (raise .sessionTimeout none (BitVec.ofNat 16 k.val) (closeSession k s))) :=
  if_pos (sessionIdleOver_iff.2 h)

theorem writerIdleOver_iff {s : State} {k : SlotId} : s.writerIdleOver k = true ↔
    (s.session k).attachment.map (·.writerIdle) = some (some 0) ∧ s.isWriter k = true := by
  unfold State.writerIdleOver
  cases (s.session k).attachment <;> simp

/-- What a taken frame with a handle makes of the session table (R63). -/
theorem accept_session_ne {s : State} {f : RxFrame} {j : SlotId} (h : j ≠ f.session) :
    (accept f s).session j = s.session j := by
  rw [accept_eq]
  unfold State.touched
  split
  · rfl
  · exact session_modSession_ne s h (·.touchedBy s.sessionLimit f.source)

theorem sessions_ext {v w : Vector Session 64} (h : ∀ k : SlotId, v[k] = w[k]) : v = w :=
  Vector.ext fun i hi => h ⟨i, hi⟩

/-! ### Quiet ends -/

/-- The freeing of a slot of a state that is s elsewhere. -/
theorem freed_sessions {s u : State} {k : SlotId} (hgen : (u.session k).generation = (s.session k).generation)
    (hothers : ∀ j, j ≠ k → u.session j = s.session j) :
    (u.modSession k fun x => { x with live := none }).sessions =
      s.sessions.set k ⟨(s.session k).generation, none⟩ := by
  refine sessions_ext fun j => ?_
  have freed := session_modSession u k j fun x => { x with live := none }
  have set := session_modSession s k j fun x => { x with live := none }
  refine freed.trans (Eq.trans ?_ set.symm)
  by_cases hj : j = k
  · simp [hj, hgen]
  · simp [hj, hothers j hj]

theorem raise_modSession (c : Cause) (arg : Word16) (s : State) (k : SlotId) (f : Session → Session) :
    raise c none arg (s.modSession k f) =
      { s.modSession k f with notice := (raise c none arg s).notice } := by
  unfold raise
  show (if admitted s.notice.mask c = true then _ else _) = _
  split <;> rfl

section
variable {s : State} {k : SlotId}
  (hk : ∀ a ∈ (s.session k).attachment, (s.port a.port).writer ≠ some k ∧ k ∉ (s.port a.port).waitList)
include hk

theorem leavePort_accept_of_unlisted (f : RxFrame) : leavePort k (accept f s) = accept f s :=
  leavePort_of_unlisted fun a ha => by
    rw [touched_attachment] at ha
    simpa only [accept_port] using hk a ha

variable (hs : s.settled)
include hs

theorem closeSession_quiet {f : RxFrame} (hf : f.session = k) (h : s.takes f .closeSession) :
    exec .closeSession s = .next { s.afterFrame f [f.answer none .ok []] with
      sessions := s.sessions.set k ⟨(s.session k).generation, none⟩ } := by
  rw [execCloseSession_of_takes h, hf, closeSession, leavePort_accept_of_unlisted hk,
    settle_reply_of_settled (modSession_settled (accept_settled hs f) k rfl), ← reply_accept,
    ← freed_sessions (accept_seatsKept f s k).1 fun j hj => accept_session_ne (hf ▸ hj)]
  rfl

theorem detach_quiet {f : RxFrame} (hf : f.session = k) (h : s.takes f .detach) :
    exec .detach s = .next ((s.afterFrame f [f.answer none .ok []]).withAttachment k none) := by
  rw [execDetach_of_takes h, hf, detachSession, leavePort_accept_of_unlisted hk,
    settle_reply_of_settled (modSession_settled (accept_settled hs f) k (detached_attachment _)),
    ← reply_accept]
  rfl

theorem sessionIdleExpiry_quiet (h : (s.session k).live.map (·.idle) = some 0) :
    exec (.sessionIdleExpiry k) s = .next { s with
      sessions := s.sessions.set k ⟨(s.session k).generation, none⟩
      notice := (raise .sessionTimeout none (BitVec.ofNat 16 k.val) s).notice } := by
  have settled := modSession_settled hs k (f := fun x => { x with live := none }) rfl
  have raised := settled_of_attachments settled
    (raise_ports .sessionTimeout none (BitVec.ofNat 16 k.val) _) fun j a ha => by
      rwa [State.session, raise_sessions] at ha
  rw [execSessionIdleExpiry_of_over h, closeSession, leavePort_of_unlisted hk, settle_of_settled raised,
    raise_modSession, ← freed_sessions rfl fun _ _ => rfl]
  rfl

end

/-! ### Ends off a wait list or of a writer -/

section
variable {s : State} {k : SlotId} {f : RxFrame}

theorem closeSession_record (k : SlotId) (s : State) :
    (closeSession k s).record k = ⟨(s.session k).generation, none⟩ := by
  rw [State.record, closeSession_session, if_pos rfl]; rfl

/-- The next state of a CLOSE (R66). -/
abbrev State.afterClose (s : State) (f : RxFrame) : State :=
  settle (reply (s.ctx f none) .ok [] (closeSession f.session (accept f s)))

/-- The next state of a DETACH (R71). -/
abbrev State.afterDetach (s : State) (f : RxFrame) : State :=
  settle (reply (s.ctx f none) .ok [] (detachSession f.session (accept f s)))

/-- The next state of a session idle expiry (R80). -/
abbrev State.afterIdle (s : State) (k : SlotId) : State :=
  settle (raise .sessionTimeout none (BitVec.ofNat 16 k.val) (closeSession k s))

theorem afterClose_portLeft (s : State) (f : RxFrame) : PortLeft f.session (accept f s) (s.afterClose f) :=
  ((closeSession_portLeft _ _).reply _ _ _).settle

theorem afterDetach_portLeft (s : State) (f : RxFrame) : PortLeft f.session (accept f s) (s.afterDetach f) :=
  ((detachSession_portLeft _ _).reply _ _ _).settle

theorem afterIdle_portLeft (s : State) (k : SlotId) : PortLeft k s (s.afterIdle k) :=
  ((closeSession_portLeft _ _).raise _ _ _).settle

theorem afterClose_session (s : State) (f : RxFrame) :
    (s.afterClose f).session f.session = ⟨(s.session f.session).generation, none⟩ := by
  refine session_of_record_free ?_
  rw [settle_record, reply_record, closeSession_record, (accept_seatsKept f s f.session).1]

theorem afterIdle_session (s : State) (k : SlotId) :
    (s.afterIdle k).session k = ⟨(s.session k).generation, none⟩ :=
  session_of_record_free (by rw [settle_record, raise_record, closeSession_record])

theorem afterDetach_session (h : s.takes f .detach) :
    ((s.afterDetach f).session f.session).attachment = none ∧
      ((s.afterDetach f).session f.session).live ≠ none := by
  have hrecord : (s.afterDetach f).record f.session = (detachSession f.session (accept f s)).record f.session := by
    rw [settle_record, reply_record]
  have hsession := detachSession_session f.session (accept f s) f.session
  rw [if_pos rfl] at hsession
  refine ⟨(attachment_eq_none_of_record hrecord).2 (by rw [hsession, detached_attachment]), ?_⟩
  rw [ne_eq, ← record_live_eq_none, hrecord, record_live_eq_none, hsession]
  have hlive : ((leavePort f.session (accept f s)).session f.session).live ≠ none := by
    rw [ne_eq, (leavePort_seatsKept _ _).free_iff, (accept_seatsKept f s).free_iff]
    exact live_of_takes h (show 3 ≤ 5 by decide)
  simpa [Session.detached] using hlive

theorem replies_of_outside {t u : State} (h : t.outside = u.outside) : t.uplink.replies = u.uplink.replies := by
  simp only [State.outside, Prod.mk.injEq] at h
  rw [h.2.2.1]

theorem afterClose_notice (s : State) (f : RxFrame) :
    (s.afterClose f).notice = (leavePort f.session (accept f s)).notice := by
  rw [settle_notice, reply_notice, closeSession, modSession_notice]

theorem afterDetach_notice (s : State) (f : RxFrame) :
    (s.afterDetach f).notice = (leavePort f.session (accept f s)).notice := by
  rw [settle_notice, reply_notice, detachSession, modSession_notice]

theorem afterClose_replies (s : State) (f : RxFrame) :
    (s.afterClose f).uplink.replies = s.uplink.replies ++ [f.answer none .ok []] := by
  rw [settle_uplink, reply_replies, replies_of_outside (closeSession_outside f.session (accept f s)), accept_eq]

theorem afterDetach_replies (s : State) (f : RxFrame) :
    (s.afterDetach f).uplink.replies = s.uplink.replies ++ [f.answer none .ok []] := by
  rw [settle_uplink, reply_replies, replies_of_outside (detachSession_outside f.session (accept f s)), accept_eq]

theorem accept_writersSound (hs : s.writersSound) (f : RxFrame) : (accept f s).writersSound :=
  (KeepsSeats.refl s).accept.writers hs

end

/-- Settles O27: a session on no list leaves the state but for its slot; one on a wait list leaves the list as
`leaveWaitList` closes it up. -/
theorem sessionsEndQuietly : Obligations.SessionsEndQuietly := by
  refine ⟨fun s k l hs hl hquiet => ?_, fun s k p hs hk => ⟨?_, ?_⟩, fun s k hidle => if_neg fun hover => ?_⟩
  · have hk : ∀ a ∈ (s.session k).attachment, (s.port a.port).writer ≠ some k ∧
        k ∉ (s.port a.port).waitList := by
      rw [Session.attachment, hl]; exact hquiet
    exact ⟨fun f hf => ⟨closeSession_quiet hk hs hf, detach_quiet hk hs hf⟩,
      fun hidle => sessionIdleExpiry_quiet hk hs (by simp [hl, hidle])⟩
  · rintro f rfl
    have hs' := accept_writersSound hs f
    have hleft := leavePort_of_waiting hs' (by rwa [accept_port] : f.session ∈ ((accept f s).port p).waitList)
    have notice : (leavePort f.session (accept f s)).notice = s.notice := by
      rw [hleft, leaveWaitList_notice, accept_eq]
    exact ⟨fun h => ⟨_, execCloseSession_of_takes h,
        leftWaiting_of_portLeft (accept_sameHolders f s) hs' hk (afterClose_portLeft s f),
        afterClose_session s f, (afterClose_notice s f).trans notice, afterClose_replies s f⟩,
      fun h => ⟨_, execDetach_of_takes h,
        leftWaiting_of_portLeft (accept_sameHolders f s) hs' hk (afterDetach_portLeft s f),
        (afterDetach_session h).1, (afterDetach_session h).2,
        (afterDetach_notice s f).trans notice, afterDetach_replies s f⟩⟩
  · refine fun hidle => ⟨_, execSessionIdleExpiry_of_over hidle,
      leftWaiting_of_portLeft (.refl s) hs hk (afterIdle_portLeft s k), afterIdle_session s k, ?_⟩
    have notice : (leavePort k s).notice = s.notice := by
      rw [leavePort_of_waiting hs hk, leaveWaitList_notice]
    rw [settle_notice, closeSession, raise_modSession]
    simp only [raise, State.noticeOf, notice]
    split <;> simp [notice]
  · obtain ⟨l, hl, hzero⟩ := Option.map_eq_some_iff.1 (sessionIdleOver_iff.1 hover)
    exact hidle l hl hzero

/-! ### The writer (R77, R81) -/

section
variable {s : State} {k : SlotId} {p : PortId}

theorem demoteWriter_of_writer (hs : s.writersSound) (hk : (s.port p).writer = some k) :
    demoteWriter k s = setIdleDemoted k (releaseWriter p s) := by
  obtain ⟨a, ha, rfl⟩ := attachedTo_iff.1 (onPort_of_listed hs (.inl hk))
  simp only [demoteWriter, ha]

theorem isWriter_of_writer (hs : s.writersSound) (hk : (s.port p).writer = some k) : s.isWriter k = true := by
  obtain ⟨a, ha, rfl⟩ := attachedTo_iff.1 (onPort_of_listed hs (.inl hk))
  simp [State.isWriter, ha, hk]

theorem setIdleDemoted_record (u : State) (j : SlotId) : (setIdleDemoted k u).record j =
    if j = k then (u.record j).mapAttachment fun a => { a with flags := { a.flags with idleDemoted := true } }
    else u.record j :=
  modAttachment_record u k j

/-- The demoted writer stays attached, with both flags and no writer idle timer (R79, R81). -/
theorem demoted_record (hs : s.writersSound) (hk : (s.port p).writer = some k) :
    (settle (demoteWriter k s)).record k = ((s.record k).mapAttachment Attachment.stopWriting).mapAttachment
      fun a => { a with flags := { a.flags with idleDemoted := true } } := by
  obtain ⟨-, hwaiting, -⟩ := hs p
  have hoff : k ∉ (s.port p).waitList := fun hj => (hwaiting k hj).2 hk
  have htail : k ∉ (s.port p).waitList.tail := fun hj => hoff (List.mem_of_mem_tail hj)
  have hhead : (s.port p).waitList.head? ≠ some k := fun e => hoff (List.mem_of_mem_head? e)
  rw [settle_record, demoteWriter_of_writer hs hk, setIdleDemoted_record, if_pos rfl, releaseWriter_record]
  simp only [if_neg htail, if_pos hk, if_neg hhead]

theorem demoted_portLeft (hs : s.writersSound) (hk : (s.port p).writer = some k) :
    PortLeft k s (settle (demoteWriter k s)) := by
  rw [demoteWriter_of_writer hs hk]
  refine PortLeft.settle ⟨?_, fun j hj => ?_⟩
  · rw [leavePort_of_writer hs hk]; rfl
  · rw [setIdleDemoted_record, if_neg hj, leavePort_of_writer hs hk]

end

/-- Settles O28: the four commands leave the port as `releaseWriter` does, with the writer's own record as each
gives it. -/
theorem writerReleasePromotes : Obligations.WriterReleasePromotes := by
  refine ⟨fun s k p hs hk => ?_, fun s k hk => if_neg fun hover => ?_⟩
  · have noticed : ∀ u : State, u.writersSound → (u.port p).writer = some k →
        u.writerChangeNoticed (leavePort k u) p (u.port p).waitList.head? := fun u hu hk => by
      rw [leavePort_of_writer hu hk]
      exact releaseWriter_noticed p u
    refine ⟨?_, ?_, fun hidle => ?_, fun hidle => ?_⟩
    · rintro f rfl h
      have hs' := accept_writersSound hs f
      exact ⟨_, execCloseSession_of_takes h, released_of_portLeft (accept_sameHolders f s) hs' hk
        (afterClose_portLeft s f) (noticed _ hs' (by rwa [accept_port])), afterClose_session s f⟩
    · rintro f rfl h
      have hs' := accept_writersSound hs f
      exact ⟨_, execDetach_of_takes h, released_of_portLeft (accept_sameHolders f s) hs' hk
        (afterDetach_portLeft s f) (noticed _ hs' (by rwa [accept_port])), afterDetach_session h⟩
    · refine ⟨_, execSessionIdleExpiry_of_over hidle, released_of_portLeft (.refl s) hs hk
        (afterIdle_portLeft s k) (fun hmask hqueue => ?_), afterIdle_session s k⟩
      have closed : (closeSession k s).firstNotice = _ := noticed s hs hk hmask hqueue
      exact firstNotice_raise (c := .sessionTimeout) closed (by decide) none _
    · refine ⟨_, if_pos (writerIdleOver_iff.2 ⟨hidle, isWriter_of_writer hs hk⟩),
        released_of_portLeft (.refl s) hs hk (demoted_portLeft hs hk) ?_, ?_⟩
      · rw [demoteWriter_of_writer hs hk]
        exact releaseWriter_noticed p s
      · rw [← map_record_attachment _ k, ← map_record_attachment s k, demoted_record hs hk]
        simp only [mapAttachment_attachment, Option.map_map]
        rfl
  · obtain ⟨hidle, hwrites⟩ := writerIdleOver_iff.1 hover
    rcases hk with h | h
    · rw [h] at hwrites; cases hwrites
    · exact h hidle

end Sys2Proof.Machine
end

section
/-! PROOFS. ATTACH: its checks in order, the placing of a session, and the contention for the keyboard. -/

namespace Sys2Proof.Machine

/-! ### The checks of R67 -/

theorem execAttach_of_takes {s : State} {f : RxFrame} {r : AttachRequest} (h : s.takes f (.attach r)) :
    exec .attach s = .next (settle (serveAttach (s.ctx f none) r (accept f s))) :=
  serve_of_takes (pick := attach?) h rfl

theorem index?_of_le {n k : Nat} (h : ¬ k < n) : index? n k = none := dif_neg h

theorem index?_val {n : Nat} (p : Fin n) : index? n p.val = some p := dif_pos p.isLt

theorem flag?_eq_none {n : Nat} (h : ¬ n ≤ 1) : flag? n = none := by
  match n, h with
  | n + 2, _ => rfl

theorem flag?_eq_some {n : Nat} (h : n ≤ 1) : flag? n = some (decide (n = 1)) := by
  match n, h with
  | 0, _ => rfl
  | 1, _ => rfl

theorem target?_eq_none {n : Nat} (h : ¬ n ≤ 2) (x : Pos) : target? n x = none := by
  match n, h with
  | n + 3, _ => rfl

theorem target?_eq_some {n : Nat} (h : n ≤ 2) (x : Pos) : ∃ t, target? n x = some t := by
  match n, h with
  | 0, _ => exact ⟨_, rfl⟩
  | 1, _ => exact ⟨_, rfl⟩
  | 2, _ => exact ⟨_, rfl⟩

theorem plan_eq_none {r : AttachRequest} (h : ¬ attachAllowed r) : r.plan = none := by
  unfold AttachRequest.plan
  by_cases hport : r.port < 32
  · by_cases hrole : r.role ≤ 1
    · by_cases hstart : r.start ≤ 2
      · obtain ⟨t, ht⟩ := target?_eq_some hstart r.position
        have hoptions : r.role = 1 ∧ ¬ (r.preempt ≤ 1 ∧ r.wait ≤ 1) := by
          refine Classical.byContradiction fun hno => h ⟨by omega, hrole, hstart, fun h1 => ?_⟩
          exact Classical.byContradiction fun h2 => hno ⟨h1, h2⟩
        obtain ⟨hwrite, hoptions⟩ := hoptions
        have hrole' : flag? r.role = some true := by rw [hwrite]; rfl
        simp only [hrole', ht, Option.bind_eq_bind, Option.bind_some, if_true]
        by_cases hpreempt : r.preempt ≤ 1
        · have hwait : ¬ r.wait ≤ 1 := fun hwait => hoptions ⟨hpreempt, hwait⟩
          simp [flag?_eq_some hpreempt, flag?_eq_none hwait]
        · simp [flag?_eq_none hpreempt]
      · simp [target?_eq_none hstart, flag?_eq_some hrole]
    · simp [flag?_eq_none hrole]
  · simp [index?_of_le hport]

theorem plan_watch {r : AttachRequest} {p : PortId} {t : Target} (hp : p.val = r.port) (hrole : r.role = 0)
    (ht : target? r.start r.position = some t) : r.plan = some ⟨p, false, false, false, t⟩ := by
  simp [AttachRequest.plan, ← hp, index?_val, hrole, flag?, ht]

theorem plan_write {r : AttachRequest} {p : PortId} {t : Target} (h : attachAllowed r) (hp : p.val = r.port)
    (hrole : r.role = 1) (ht : target? r.start r.position = some t) :
    r.plan = some ⟨p, true, decide (r.preempt = 1), decide (r.wait = 1), t⟩ := by
  obtain ⟨-, -, -, hoptions⟩ := h
  obtain ⟨hpreempt, hwait⟩ := hoptions hrole
  have hwrite : flag? r.role = some true := by rw [hrole]; rfl
  simp [AttachRequest.plan, ← hp, index?_val, hwrite, flag?_eq_some hpreempt, flag?_eq_some hwait, ht]

/-- An ATTACH that its first check passes has a plan for its port. -/
theorem plan_of_allowed {r : AttachRequest} {p : PortId} (h : attachAllowed r) (hp : p.val = r.port) :
    ∃ a, r.plan = some a ∧ a.port = p := by
  obtain ⟨-, hrole, hstart, -⟩ := id h
  obtain ⟨t, ht⟩ := target?_eq_some hstart r.position
  obtain hwatch | hwrite : r.role = 0 ∨ r.role = 1 := by omega
  · exact ⟨_, plan_watch hp hwatch ht, rfl⟩
  · exact ⟨_, plan_write h hp hwrite ht, rfl⟩

section
variable {c : Ctx} {r : AttachRequest} {s : State} {a : AttachPlan}

theorem serveAttach_unallowed (h : r.plan = none) : serveAttach c r s = reply c .range [] s := by
  simp only [serveAttach, h]

section
variable (hplan : r.plan = some a)
include hplan

theorem serveAttach_refused (h : inSet (s.stationOf c).ports a.port = false) :
    serveAttach c r s = reply c .refusedAccess [] s := by
  simp [serveAttach, hplan, h]

variable (hport : inSet (s.stationOf c).ports a.port = true)
include hport

theorem serveAttach_disabled (h : (s.port a.port).state = .disabled) :
    serveAttach c r s = reply c .portDisabled [] s := by
  simp [serveAttach, hplan, hport, h]

variable (henabled : (s.port a.port).state ≠ .disabled)
include henabled

theorem serveAttach_inUse (h : (s.session c.session).attachment ≠ none) :
    serveAttach c r s = reply c .inUse [] s := by
  simp [serveAttach, hplan, hport, henabled, Option.isSome_iff_ne_none, h]

theorem serveAttach_attaches (h : (s.session c.session).attachment = none) :
    serveAttach c r s = attachTo c r a s := by
  simp [serveAttach, hplan, hport, henabled, h]

end

end

/-! ### The placing of a session (R68, R70) -/

theorem placeSession_attachment {s : State} {k : SlotId} (h : (s.session k).live ≠ none) (p : PortId)
    (x : Target) (c g : Nat) : ((placeSession k p x c g s).session k).attachment =
      some (.placed p (s.port p).ring x c g) := by
  obtain ⟨l, hl⟩ := Option.ne_none_iff_exists'.1 h
  rw [placeSession_session, if_pos rfl]
  simp [Session.attachment, hl]

theorem attachValues_of_unlisted {s : State} {k : SlotId} {a : Attachment}
    (ha : (s.session k).attachment = some a) (hk : s.unlisted k) : s.attachValues k =
      [0, 0xFF] ++ encPos a.cursor ++ encPos a.credit ++ bytesOf 2 a.nextMark.toNat ++
        encPos (s.port a.port).ring.head ++ bytesOf 1 (s.port a.port).state.code := by
  obtain ⟨hwriter, hlist⟩ := hk a.port
  have watches : s.isWriter k = false := by simp [State.isWriter, ha, hwriter]
  have waits : s.waitPlace k = none := by simp [State.waitPlace, ha, hlist]
  simp only [State.attachValues, ha, watches, waits]
  rfl

/-- The content test of a state whose timers agree but for one session just attached. -/
theorem settle_withAttachment {s : State} (hs : s.settled) (k : SlotId) (b : Attachment) :
    settle (s.withAttachment k (some b)) =
      s.withAttachment k (some (b.gatherTest (s.port b.port).ring)) := by
  have hsessions : (settle (s.withAttachment k (some b))).sessions =
      (s.withAttachment k (some (b.gatherTest (s.port b.port).ring))).sessions := by
    refine sessions_ext fun j => ?_
    have tested : (settle (s.withAttachment k (some b))).sessions[j] =
        ((s.withAttachment k (some b)).session j).mapAttachment
          fun a => a.gatherTest (s.port a.port).ring := by
      simp only [settle, Fin.getElem_fin, tabMap_get]
      rfl
    refine tested.trans (Eq.trans ?_ (session_modSession s k j _).symm)
    rw [State.withAttachment, session_modSession]
    split
    · cases (s.session k).live <;> rfl
    · have := congrArg (fun t : State => t.session j) (settle_of_settled hs)
      simpa only [settle, State.session, Fin.getElem_fin, tabMap_get] using this
  exact congrArg (fun v => { s.withAttachment k (some b) with sessions := v }) hsessions

/-- Settles O29: the checks are the branches of `serveAttach`; a watcher is only placed. -/
theorem attachChecksAndWatch : Obligations.AttachChecksAndWatch := by
  intro s f r hs hsound htakes
  have answered : ∀ x, serveAttach (s.ctx f none) r (accept f s) = reply (s.ctx f none) x [] (accept f s) →
      exec .attach s = .next (s.afterFrame f [f.answer none x []]) := fun x h => by
    rw [execAttach_of_takes htakes, h, settle_reply_of_settled (accept_settled hs f), reply_accept]
  refine ⟨fun h => answered _ (serveAttach_unallowed (plan_eq_none h)), fun p hp hallowed => ?_⟩
  dsimp only
  obtain ⟨a, hplan, rfl⟩ := plan_of_allowed hallowed hp
  have station : (accept f s).stationOf (s.ctx f none) = s.stationFor f := by rw [accept_eq]; rfl
  have port := accept_port f s
  refine ⟨fun hset => answered _ (serveAttach_refused hplan (by rwa [station])), fun hset => ?_⟩
  rw [← station] at hset
  refine ⟨fun hstate => answered _ (serveAttach_disabled hplan hset (by rwa [port])), fun hstate => ?_⟩
  rw [← port] at hstate
  refine ⟨fun hbusy => answered _ (serveAttach_inUse hplan hset hstate ?_), fun hfree hrole => ?_⟩
  · rw [touched_attachment]; exact hbusy
  · have hfree' : ((accept f s).session f.session).attachment = none := by rwa [touched_attachment]
    have hlive : ((accept f s).session f.session).live ≠ none := by
      rw [ne_eq, (accept_seatsKept f s).free_iff]
      exact live_of_takes htakes (show 3 ≤ 4 by decide)
    obtain ⟨-, -, hstart, -⟩ := hallowed
    obtain ⟨x, hx⟩ := target?_eq_some hstart r.position
    rw [plan_watch hp hrole hx, Option.some.injEq] at hplan
    have hplaced := placeSession_attachment hlive a.port x r.credit r.gather
    have unlisted : (placeSession f.session a.port x r.credit r.gather (accept f s)).unlisted f.session :=
      unlisted_of_unattached (accept_writersSound hsound f) hfree'
    rw [execAttach_of_takes htakes, serveAttach_attaches (plan_watch hp hrole hx) hset hstate hfree',
      startAt_eq hx]
    simp only [attachTo, Bool.false_eq_true, if_false, Option.getD_none]
    rw [show (s.ctx f none).session = f.session from rfl, attachValues_of_unlisted hplaced unlisted,
      show ∀ q, (placeSession f.session a.port x r.credit r.gather (accept f s)).port q = s.port q from port]
    have served : ∀ (y : Result) (vs : List Byte),
        settle (reply (s.ctx f none) y vs (placeSession f.session a.port x r.credit r.gather (accept f s))) =
          (s.afterFrame f [f.answer none y vs]).withAttachment f.session
            (some ((Attachment.placed a.port (s.port a.port).ring x r.credit r.gather).gatherTest
              (s.port a.port).ring)) := fun y vs => by
      rw [← reply_accept, ← port]
      exact settle_withAttachment (s := reply _ _ _ (accept f s)) (accept_settled hs f) _ _
    rw [served]
    simp only [port]
    rfl

end Sys2Proof.Machine
end

section
/-! PROOFS. ATTACH with role WRITE: what each outcome of the contention makes of the port and of the sessions. -/

namespace Sys2Proof.Machine

/-! ### A session placed for the contention -/

/-- In u the session k has been placed with the attachment b, and nothing that the contention reads or changes
differs from s elsewhere. -/
structure Seated (s u : State) (k : SlotId) (b : Attachment) : Prop where
  port : ∀ q, u.port q = s.port q
  others : ∀ j, j ≠ k → (u.session j).attachment = (s.session j).attachment
  self : (u.session k).attachment = some b
  notice : u.notice = s.notice
  idle : u.freshWriterIdle = s.freshWriterIdle
  rank : u.rankOf = s.rankOf

theorem placeSession_rankOf (k : SlotId) (p : PortId) (x : Target) (c g : Nat) (s : State) :
    (placeSession k p x c g s).rankOf = s.rankOf := by
  funext j
  unfold State.rankOf
  rw [placeSession_session]
  by_cases hj : j = k
  · rw [if_pos hj, hj]
    cases (s.session k).live <;> rfl
  · rw [if_neg hj]

/-- The placing of the session of a taken frame. -/
theorem placeSession_seated {s : State} {f : RxFrame} (h : (s.session f.session).live ≠ none) (p : PortId)
    (x : Target) (c g : Nat) :
    Seated s (placeSession f.session p x c g (accept f s)) f.session
      (.placed p (s.port p).ring x c g) where
  port := accept_port f s
  others j hj := by rw [placeSession_session, if_neg hj, touched_attachment]
  self := by
    rw [placeSession_attachment (mt ((accept_seatsKept f s).free_iff _).1 h), accept_port]
  notice := (accept_sameHolders f s).notice
  idle := (accept_sameHolders f s).idle
  rank := by rw [placeSession_rankOf, (accept_seatsKept f s).rankOf]

namespace Seated
variable {s u : State} {k : SlotId} {b : Attachment} (h : Seated s u k b)
include h

theorem flagsOf {j : SlotId} (hj : j ≠ k) : u.flagsOf j = s.flagsOf j := by
  rw [State.flagsOf, h.others j hj]; rfl

theorem self_record : (u.record k).attachment = some b.unmarked := by
  rw [State.record, mapAttachment_attachment, h.self]; rfl

/-- The flags and the writer idle timer of the placed session, whatever came to its record. -/
theorem status {t : State} {g : Attachment → Attachment}
    (ht : t.record k = (u.record k).mapAttachment g) :
    (t.session k).attachment.map (fun b => (b.flags, b.writerIdle)) =
      some ((g b.unmarked).flags, (g b.unmarked).writerIdle) := by
  rw [← map_record_attachment t k, ht, mapAttachment_attachment, h.self_record]; rfl

end Seated

theorem mapAttachment_id (x : Session) : x.mapAttachment (fun a => a) = x := by
  rcases x with ⟨n, _ | ⟨e, rank, peer, idle, _ | a⟩⟩ <;> rfl

/-- What the contention of a session makes of its own record: that of a writer, or nothing. -/
theorem contend_record_self {s u : State} {k : SlotId} {b : Attachment} (h : Seated s u k b)
    (hk : s.unlisted k) (a : AttachPlan) :
    (contend k a u).1.record k = (u.record k).mapAttachment (Attachment.startWriting s.freshWriterIdle) ∨
      (contend k a u).1.record k = u.record k := by
  obtain ⟨hwriter, hlist⟩ := hk a.port
  rcases contend_cases k a u with ⟨-, e, -⟩ | ⟨w, hw, ⟨-, e, -⟩ | ⟨-, ⟨-, e, -⟩ | ⟨-, e, -⟩⟩⟩ <;> rw [e]
  · left; rw [writerChange_record, h.idle]; simp
  · have hkw : k ≠ w := by rintro rfl; rw [h.port] at hw; exact hwriter hw
    left
    rw [preempt_record, if_neg hkw, writerChange_record, h.idle]
    simp [Ne.symm hkw]
  · right
    rw [joinWaitList_record, if_neg fun hmem => hlist ?_]
    rw [← h.port]
    exact List.dropWhile_subset _ hmem
  · right; rfl

/-- The keyboard taken, with no other session of it: the port, and the record of the new writer. -/
theorem taken_of_writerChange {s u : State} {k : SlotId} {b : Attachment} (h : Seated s u k b) {p : PortId}
    {old : Option SlotId} (hold : old ≠ some k) :
    (writerChange p old (some k) u).port p = { s.port p with
      queue := [], writer := some k, ring := (s.port p).ring.addMark .writer (BitVec.ofNat 16 k.val) } ∧
    s.writerChangeNoticed (writerChange p old (some k) u) p (some k) ∧
    (writerChange p old (some k) u).record k =
      (u.record k).mapAttachment (Attachment.startWriting s.freshWriterIdle) := by
  refine ⟨by rw [writerChange_port, if_pos rfl, h.port]; rfl, fun hmask hqueue => ?_, ?_⟩
  · rw [← h.notice] at hmask hqueue
    rw [← h.port]
    exact writerChange_noticed p old (some k) u hmask hqueue
  · rw [writerChange_record, h.idle, if_neg hold, if_pos rfl]

/-- The record of a session that a writer change leaves alone. -/
theorem writerChange_record_ne {p : PortId} {old new : Option SlotId} {s : State} {j : SlotId}
    (hold : old ≠ some j) (hnew : new ≠ some j) : (writerChange p old new s).record j = s.record j := by
  rw [writerChange_record, if_neg hold, if_neg hnew]

/-- The flags of a preempted writer, and its writer idle timer (R76, R78, R79). -/
theorem preempted_status {s : State} {p : PortId} {w k : SlotId} (h : w ≠ k) :
    ((preempt p w k s).record w).attachment.map (fun b => (b.flags, b.writerIdle)) =
      (s.session w).attachment.map fun b =>
        ({ b.flags with roleChange := true, preempted := true }, none) := by
  rw [preempt_record, if_pos rfl, writerChange_record, if_pos rfl,
    if_neg fun e => h (Option.some.inj e).symm, mapAttachment_attachment, mapAttachment_attachment,
    ← map_record_attachment s w, Option.map_map, Option.map_map]
  rfl

/-! ### The reply (R70) -/

theorem settle_attachValues (s : State) (k : SlotId) : (settle s).attachValues k = s.attachValues k := by
  have hatt : ((settle s).session k).attachment =
      (s.session k).attachment.map fun a => a.gatherTest (s.port a.port).ring := by
    simp [settle, State.session, Fin.getElem_fin]
  have hport : ∀ q, (settle s).port q = s.port q := fun _ => rfl
  simp only [State.attachValues, State.isWriter, State.waitPlace, hatt, hport]
  cases (s.session k).attachment with
  | none => rfl
  | some a => rw [Option.map_some, gatherTest_eq]

/-- Where a session that writes is placed, whatever the contention made of it. -/
theorem standing_of_record {s u t : State} {k : SlotId} {b : Attachment} (h : Seated s u k b)
    (hip : b.ip = 0)
    (ht : t.record k = (u.record k).mapAttachment (Attachment.startWriting s.freshWriterIdle) ∨
      t.record k = u.record k) :
    (t.session k).attachment.map (fun b => (b.port, b.cursor, b.credit, b.lost, b.ip)) =
      some (b.port, b.cursor, b.credit, b.lost, 0) := by
  rw [← map_record_attachment t k]
  rcases ht with e | e
  · rw [e, mapAttachment_attachment, h.self_record]; rfl
  · rw [e, h.self_record, ← hip]; rfl

/-! ### The outcomes of the contention -/

section
variable {s : State} {f : RxFrame} {r : AttachRequest} {p : PortId}

/-- An ATTACH with role WRITE places its session and contends with it for the keyboard of the port. -/
theorem execAttach_contends (htakes : s.takes f (.attach r)) (hallowed : attachAllowed r) (hrole : r.role = 1)
    (hp : p.val = r.port) (hset : inSet (s.stationFor f).ports p = true)
    (hstate : (s.port p).state ≠ .disabled) (hfree : (s.session f.session).attachment = none) :
    ∃ (x : Target) (u t : State), target? r.start r.position = some x ∧
      Seated s u f.session (.placed p (s.port p).ring x r.credit r.gather) ∧ exec .attach s = .next t ∧
      let plan : AttachPlan := ⟨p, true, decide (r.preempt = 1), decide (r.wait = 1), x⟩
      let after := contend f.session plan u
      t.record = after.1.record ∧ (∀ q, t.port q = after.1.port q) ∧ t.notice = after.1.notice ∧
      t.uplink.replies = s.uplink.replies ++ [f.answer none
        (after.2.getD (clampResult ((s.port p).ring.placeCursor x).2)) (t.attachValues f.session)] := by
  obtain ⟨-, -, hstart, -⟩ := id hallowed
  obtain ⟨x, hx⟩ := target?_eq_some hstart r.position
  have station : (accept f s).stationOf (s.ctx f none) = s.stationFor f := by rw [accept_eq]; rfl
  have hplan := plan_write hallowed hp hrole hx
  refine ⟨x, _, _, hx, placeSession_seated (live_of_takes htakes (show 3 ≤ 4 by decide)) p x r.credit r.gather,
    execAttach_of_takes htakes, ?_⟩
  rw [serveAttach_attaches hplan (by rwa [station]) (by rwa [accept_port])
    (by rw [← hfree]; exact touched_attachment f s _)]
  simp only [attachTo, if_true, accept_port, show (s.ctx f none).session = f.session from rfl]
  have replies : ∀ a, (contend f.session a (placeSession f.session p x r.credit r.gather
      (accept f s))).1.uplink.replies = s.uplink.replies := fun a => by
    rw [replies_of_outside (contend_outside f.session a _)]
    show (accept f s).uplink.replies = _
    rw [accept_eq]
  refine ⟨by rw [settle_record, reply_record], fun q => ?_, by rw [settle_notice, reply_notice], ?_⟩
  · rw [State.port, settle_ports, reply_ports]; rfl
  · rw [settle_uplink, reply_replies, replies, settle_attachValues]; rfl

end

/-- Settles O30: the outcomes of `contend`, each on the session as it has just been placed. -/
theorem attachContendsForTheKeyboard : Obligations.AttachContendsForTheKeyboard := by
  intro s f r p hsound htakes hallowed hrole hp hset hstate hfree
  dsimp only
  obtain ⟨x, u, t, hx, hseated, hexec, trecord, tport, tnotice, treplies⟩ :=
    execAttach_contends htakes hallowed hrole hp hset hstate hfree
  generalize ha : AttachPlan.mk p true (decide (r.preempt = 1)) (decide (r.wait = 1)) x = a at *
  have hport : a.port = p := by rw [← ha]
  have hpreempt : a.preempt = true ↔ r.preempt = 1 := by rw [← ha]; exact decide_eq_true_iff
  have hwait : a.wait = true ↔ r.wait = 1 := by rw [← ha]; exact decide_eq_true_iff
  have hunlisted : s.unlisted f.session := unlisted_of_unattached hsound hfree
  obtain ⟨hkwriter, hklist⟩ := hunlisted p
  obtain ⟨-, -, -, -, hrank, -⟩ := hsound p
  have standing := standing_of_record hseated rfl
    (by rw [trecord]; exact contend_record_self hseated hunlisted a)
  have kept : ∀ j, j ≠ f.session → t.record j = u.record j → t.flagsOf j = s.flagsOf j := fun j hj e => by
    rw [← hseated.flagsOf hj]; exact flagsOf_congr e
  refine ⟨t, _, hexec, treplies, fun q hq => ?_, ?_, ?_⟩
  · rw [tport, contend_port_ne (by rwa [hport]), hseated.port]
  · rw [standing, startAt_eq hx]; rfl
  · rw [startAt_eq hx]
    have outcomes := contend_cases f.session a u
    simp only [hport, hseated.port, hseated.rank, hpreempt, hwait] at outcomes
    rcases outcomes with ⟨hw, e, e'⟩ | ⟨w, hw, outcomes⟩
    · rw [e] at trecord tport tnotice
      obtain ⟨port, noticed, record⟩ := taken_of_writerChange hseated (p := p) (old := none) (by simp)
      simp only [hw]
      refine ⟨⟨by rw [e']; rfl, by rw [tport]; exact port, fun hmask hqueue => ?_, ?_⟩,
        fun j hj => kept j hj ?_⟩
      · rw [State.firstNotice, tnotice]
        exact noticed hmask hqueue
      · exact hseated.status (by rw [trecord]; exact record)
      · rw [trecord, writerChange_record_ne (by simp) (fun e => hj (Option.some.inj e).symm)]
    · have hwk : w ≠ f.session := fun e => hkwriter (e ▸ hw)
      simp only [hw]
      rcases outcomes with ⟨hpre, e, e'⟩ | ⟨hpre, ⟨hwaits, e, e'⟩ | ⟨hwaits, e, e'⟩⟩
      · rw [e] at trecord tport tnotice
        obtain ⟨port, noticed, record⟩ := taken_of_writerChange hseated (p := p) (old := some w)
          (fun e => hwk (Option.some.inj e))
        rw [if_pos hpre]
        refine ⟨⟨by rw [e']; rfl, by rw [tport]; exact port, fun hmask hqueue => ?_, ?_⟩,
          fun j hj hjw => kept j hj ?_, ?_⟩
        · rw [State.firstNotice, tnotice]
          exact noticed hmask hqueue
        · exact hseated.status (by rw [trecord, preempt_record, if_neg hwk.symm]; exact record)
        · rw [trecord, preempt_record, if_neg hjw, writerChange_record_ne
            (fun e => hjw (Option.some.inj e).symm) (fun e => hj (Option.some.inj e).symm)]
        · rw [← map_record_attachment t w, trecord, ← hseated.others w hwk, preempted_status hwk]
      · rw [e] at trecord tport tnotice
        obtain ⟨htake, hdrop⟩ := takeWhile_dropWhile_rank (n := s.rankOf f.session) hrank
        rw [if_neg hpre, if_pos hwaits]
        have record : ∀ j, t.record j =
            if j ∈ (s.port p).waitList.filter (fun j => decide (s.rankOf j < s.rankOf f.session))
            then (u.record j).mapAttachment Attachment.waitFlagged else u.record j := fun j => by
          rw [trecord, joinWaitList_record, hseated.port, hseated.rank, hdrop]
        have hself : f.session ∉
            (s.port p).waitList.filter (fun j => decide (s.rankOf j < s.rankOf f.session)) :=
          fun h => hklist (List.mem_of_mem_filter h)
        refine ⟨by rw [e']; rfl, ?_, ⟨?_, ?_⟩, fun j hj => ?_, fun j hj hbelow => kept j hj ?_⟩
        · rw [tport, joinWaitList_port, if_pos rfl, hseated.port, hseated.rank, htake, hdrop, ← hw]
        · exact hseated.status (g := fun a => a) (by rw [record, if_neg hself, mapAttachment_id])
        · rw [tnotice, joinWaitList_notice, hseated.notice]
        · have hjk : j ≠ f.session := by rintro rfl; exact hself hj
          rw [← hseated.flagsOf hjk]
          exact flagsOf_waitFlagged (by rw [record, if_pos hj])
        · rw [record, if_neg hbelow]
      · rw [e] at trecord tport tnotice
        rw [if_neg hpre, if_neg hwaits, e']
        refine ⟨?_, by rw [tport, hseated.port], ⟨?_, by rw [tnotice, hseated.notice]⟩,
          fun j hj => kept j hj (by rw [trecord])⟩
        · simp only [Option.getD_some]
        · exact hseated.status (g := fun a => a) (by rw [trecord, mapAttachment_id])

end Sys2Proof.Machine
end

section
/-! PROOFS. STATION_WRITE: the check of R59, and the closing of the entry's sessions. -/

namespace Sys2Proof.Machine

/-! ### The check of R59 -/

theorem individual_iff (m : Mac) : individual m = true ↔ m.getLsbD 40 = false ∧ m ≠ 0 := by
  simp [individual]

theorem addressTaken_eq_false_iff {s : State} {e : StationId} {m : Mac} : s.addressTaken e m = false ↔
    ∀ i : StationId, i.val ≠ e.val → (s.station i).valid → ¬ (s.commissioning = true ∧ i = 0) →
      (s.station i).address ≠ m := by
  have named : ∀ i, (!s.isWildcard i) = true ↔ ¬ (s.commissioning = true ∧ i = 0) := fun i => by
    cases h : s.commissioning <;> simp [State.isWildcard, h]
  simp only [State.addressTaken, allStations, List.any_eq_false, List.mem_finRange, true_implies,
    State.names, Bool.and_eq_true, bne_iff_ne, beq_iff_eq, named, not_and, Fin.val_inj, ne_eq, and_imp]

theorem flag?_eq_some_iff {n : Nat} {b : Bool} : flag? n = some b ↔ flagByte b = n := by
  match n with
  | 0 => cases b <;> decide
  | 1 => cases b <;> decide
  | n + 2 => cases b <;> simp [flag?, flagByte]

theorem rights?_eq_some_iff {n : Nat} {r : Rights} : rights? n = some r ↔ r.code = n := by
  have codes : ∀ (n : Fin 8) (r : Rights),
      (⟨n.val.testBit 0, n.val.testBit 1, n.val.testBit 2⟩ : Rights) = r ↔ r.code = n.val := by
    rintro n ⟨a, b, c⟩
    revert n a b c
    decide
  unfold rights?
  split
  next h => rw [Option.some.injEq]; exact codes ⟨n, h⟩ r
  next h =>
    have : r.code < 8 := by
      rcases r with ⟨a, b, c⟩
      revert a b c
      decide
    exact ⟨fun h' => (by cases h'), fun h' => absurd (h' ▸ this) h⟩

/-- The check of R59 on a write of given fields. -/
theorem checkStation_raw (s : State) (e : StationId) (x : Station) : checkStation s (x.raw e.val) =
    if stationAllowed s (x.raw e.val) then some (e, x) else none := by
  have hvalid : flag? (x.raw e.val).valid = some x.valid := flag?_eq_some_iff.2 rfl
  have hrights : rights? (x.raw e.val).rights = some x.rights := rights?_eq_some_iff.2 rfl
  have hcode : x.rights.code ≤ 7 := by
    rcases x.rights with ⟨a, b, c⟩
    revert a b c
    decide
  have hflag : flagByte x.valid = 1 ↔ x.valid = true := by cases x.valid <;> decide
  have hbyte : flagByte x.valid ≤ 1 := by cases x.valid <;> decide
  have hindex : index? 16 (x.raw e.val).entry = some e := index?_val e
  simp only [checkStation, hindex, hvalid, hrights, Option.bind_eq_bind, Option.bind_some]
  refine if_congr ?_ rfl rfl
  simp only [Bool.and_eq_true, Bool.not_eq_true', Bool.and_eq_false_imp,
    Bool.or_eq_false_iff, Bool.not_eq_false', individual_iff, addressTaken_eq_false_iff, stationAllowed,
    Station.raw, hflag]
  have hentry : e.val ≤ 15 := by omega
  simp only [hentry, hbyte, hcode, true_and, and_assoc]
  exact and_congr decide_eq_true_iff (and_congr decide_eq_true_iff (and_congr decide_eq_true_iff Iff.rfl))

/-- A write that R59 does not refuse is of an entry with the fields sent. -/
theorem exists_raw {w : StationWrite} {e : StationId} (he : e.val = w.entry) (hvalid : w.valid ≤ 1)
    (hrights : w.rights ≤ 7) : ∃ x : Station, x.raw e.val = w := by
  refine ⟨⟨decide (w.valid = 1), w.address, w.rank, w.ports, w.limit,
    ⟨w.rights.testBit 0, w.rights.testBit 1, w.rights.testBit 2⟩⟩, ?_⟩
  have valid := flag?_eq_some_iff.1 (flag?_eq_some hvalid)
  have rights := rights?_eq_some_iff.1 (if_pos (Nat.lt_succ_of_le hrights) : rights? w.rights = some _)
  simp only [Station.raw, he, valid, rights]

theorem checkStation_refuses {s : State} {w : StationWrite} (h : ¬ stationAllowed s w) :
    checkStation s w = none := by
  by_cases hentry : w.entry < 16
  · by_cases hvalid : w.valid ≤ 1
    · by_cases hrights : w.rights ≤ 7
      · obtain ⟨x, hx⟩ := exists_raw (e := ⟨w.entry, hentry⟩) rfl hvalid hrights
        rw [← hx, checkStation_raw, if_neg (by rwa [hx])]
      · simp [checkStation, rights?, show ¬ w.rights < 8 by omega]
    · simp [checkStation, flag?_eq_none hvalid]
  · simp [checkStation, index?_of_le hentry]

theorem checkStation_accepts {s : State} {w : StationWrite} {e : StationId} (he : e.val = w.entry)
    (h : stationAllowed s w) : ∃ x : Station, checkStation s w = some (e, x) ∧ x.raw e.val = w := by
  obtain ⟨-, hvalid, hrights, -⟩ := id h
  obtain ⟨x, hx⟩ := exists_raw he hvalid hrights
  exact ⟨x, by rw [← hx, checkStation_raw, if_pos (by rwa [hx])], hx⟩

/-! ### The closing of the sessions of an entry (R59, R65) -/

theorem mem_slotsOf {s : State} {e : StationId} {k : SlotId} :
    k ∈ s.slotsOf e ↔ (s.session k).ofStation e = true := by
  simp [State.slotsOf, allSlots]

theorem slotsOf_of_single {s : State} {e : StationId} {k : SlotId} (hk : (s.session k).ofStation e = true)
    (honly : ∀ j, (s.session j).ofStation e = true → j = k) : s.slotsOf e = [k] := by
  have hnodup : (s.slotsOf e).Nodup := (List.nodup_finRange 64).filter _
  refine List.perm_singleton.1 ((List.perm_ext_iff_of_nodup hnodup (List.nodup_singleton k)).2 fun j => ?_)
  rw [mem_slotsOf, List.mem_singleton]
  exact ⟨honly j, fun h => h ▸ hk⟩

/-- The state after an accepted STATION_WRITE (R59). -/
abbrev State.afterStation (s : State) (f : RxFrame) (op : Byte) (e : StationId) (x : Station) : State :=
  settle (reply (s.ctx f (some op)) .ok [] (applyStation e x (accept f s)))

theorem execStationWrite_of_takes {s : State} {f : RxFrame} {op : Byte} {w : StationWrite}
    (h : s.takesManage f op (.stationWrite w)) : exec .stationWrite s =
      .next (settle (serveStationWrite (s.ctx f (some op)) w (accept f s))) :=
  serveManage_of_takesManage h rfl

section
variable (s : State) (f : RxFrame) (op : Byte) (e : StationId) (x : Station)

theorem applyStation_record (t : State) :
    (applyStation e x t).record = (forEach (t.slotsOf e) closeSession t).record := rfl

theorem applyStation_ports (t : State) :
    (applyStation e x t).ports = (forEach (t.slotsOf e) closeSession t).ports := rfl

theorem applyStation_notice (t : State) :
    (applyStation e x t).notice = (forEach (t.slotsOf e) closeSession t).notice := rfl

theorem afterStation_record (k : SlotId) : (s.afterStation f op e x).record k =
    (forEach ((accept f s).slotsOf e) closeSession (accept f s)).record k := by
  rw [settle_record, reply_record, applyStation_record]

theorem slotsOf_accept : (accept f s).slotsOf e = s.slotsOf e := by
  refine List.filter_congr fun k _ => ?_
  rw [ofStation_eq_seat, ofStation_eq_seat, (accept_seatsKept f s k).2]

/-- An accepted write leaves every slot's generation, and frees the slots of its entry alone. -/
theorem afterStation_session (k : SlotId) :
    ((s.afterStation f op e x).session k).generation = (s.session k).generation ∧
      (((s.afterStation f op e x).session k).live = none ↔
        (s.session k).live = none ∨ (s.session k).ofStation e = true) := by
  have hrecord := afterStation_record s f op e x k
  rw [slotsOf_accept] at hrecord
  constructor
  · rw [← record_generation, hrecord, record_generation, closeSessions_generation, (accept_seatsKept f s k).1]
  · rw [← record_live_eq_none, hrecord, record_live_eq_none, ← seat_eq_none_iff, closeSessions_seat,
      (accept_seatsKept f s k).2, ← mem_slotsOf]
    split
    next hk => simp [hk]
    next hk => simp [hk, seat_eq_none_iff]

/-- The tables and the reply of an accepted write (R59, R61). -/
theorem afterStation_tables : (s.afterStation f op e x).stations = s.stations.set e x ∧
    (s.afterStation f op e x).commissioning = (s.commissioning && e != 0) ∧
    (s.afterStation f op e x).uplink.replies = s.uplink.replies ++ [f.answer (some op) .ok []] := by
  have hout := closeSessions_outside ((accept f s).slotsOf e) (accept f s)
  simp only [State.outside, Prod.mk.injEq] at hout
  obtain ⟨hstations, hcommissioning, huplink, -⟩ := hout
  unfold State.afterStation applyStation
  generalize forEach ((accept f s).slotsOf e) closeSession (accept f s) = u at *
  refine ⟨?_, ?_, ?_⟩
  · show u.stations.set e x = _
    rw [hstations, accept_eq]
  · show (u.commissioning && e != 0) = _
    rw [hcommissioning, accept_eq]
  · show u.uplink.replies ++ _ = _
    rw [huplink, accept_eq]; rfl

variable {s e} {k : SlotId} (hk : (s.session k).ofStation e = true)
  (honly : ∀ j, (s.session j).ofStation e = true → j = k)
include hk honly

/-- Where one session alone is of the entry, it alone leaves its port. -/
theorem afterStation_portLeft : PortLeft k (accept f s) (s.afterStation f op e x) ∧
    (s.afterStation f op e x).notice = (leavePort k (accept f s)).notice := by
  have closed : forEach ((accept f s).slotsOf e) closeSession (accept f s) = closeSession k (accept f s) := by
    rw [slotsOf_accept, slotsOf_of_single hk honly]; rfl
  refine ⟨⟨?_, fun j hj => ?_⟩, ?_⟩
  · rw [settle_ports, reply_ports, applyStation_ports, closed]; rfl
  · rw [afterStation_record, closed]
    exact (closeSession_portLeft k (accept f s)).others j hj
  · rw [settle_notice, reply_notice, applyStation_notice, closed, closeSession, modSession_notice]

end

/-- Settles O51: the check of R59 decides; a write that passes closes the sessions that `slotsOf` lists. -/
theorem stationWriteClosesItsSessions : Obligations.StationWriteClosesItsSessions := by
  intro s f op w htakes
  have allowed : stationAllowed (accept f s) w ↔ stationAllowed s w := by rw [accept_eq]; exact Iff.rfl
  rw [execStationWrite_of_takes htakes]
  refine ⟨fun hs hrefused => ?_, fun e he hallowed => ?_⟩
  · rw [serveStationWrite, checkStation_refuses (mt allowed.1 hrefused)]
    exact congrArg _ ((settle_reply_of_settled (accept_settled hs f) _ _ _).trans (reply_accept _ _ _ _ _))
  · obtain ⟨x, hcheck, hraw⟩ := checkStation_accepts he (allowed.2 hallowed)
    obtain ⟨hstations, hcommissioning, hreplies⟩ := afterStation_tables s f op e x
    refine ⟨x, s.afterStation f op e x, by rw [serveStationWrite, hcheck], hraw, hstations, hcommissioning,
      hreplies, fun k => ?_⟩
    obtain ⟨hgeneration, hlive⟩ := afterStation_session s f op e x k
    refine ⟨hgeneration, hlive, fun p hsound honly hk => ?_⟩
    obtain ⟨hleft, hnotice⟩ := afterStation_portLeft f op x hk honly
    have hsound' := accept_writersSound hsound f
    refine ⟨fun hwaits => ⟨leftWaiting_of_portLeft (accept_sameHolders f s) hsound' hwaits hleft, ?_⟩,
      fun hwrites => released_of_portLeft (accept_sameHolders f s) hsound' hwrites hleft ?_⟩
    · rw [hnotice, leavePort_of_waiting hsound' (by rwa [accept_port]), leaveWaitList_notice, accept_eq]
    · intro hmask hqueue
      rw [State.firstNotice, hnotice, leavePort_of_writer hsound' (by rwa [accept_port])]
      exact releaseWriter_noticed p (accept f s) hmask hqueue

end Sys2Proof.Machine
end

section
/-! PROOFS. The seven settings, and the timers that a changed idle limit restarts. -/

namespace Sys2Proof.Machine

/-! ### Clamping (R175, R178) -/

theorem clampTo_zero (hi n : Nat) : clampTo 0 hi n = min hi n := by
  unfold clampTo
  split
  · omega
  · split <;> omega

theorem clampTo_eq {lo hi : Nat} (h : lo ≤ hi) (n : Nat) : clampTo lo hi n = max lo (min hi n) := by
  unfold clampTo
  split
  · omega
  · split <;> omega

/-- A setting is answered CLAMPED exactly where the value sent lies outside. -/
theorem clampResult_of_outside {lo hi m n : Nat} (h : m ≠ n ↔ n < lo ∨ hi < n) :
    clampResult (m != n) = if n < lo ∨ hi < n then .clamped else .ok :=
  if_congr (bne_iff_ne.trans h) rfl rfl

/-! ### A setting written (R178) -/

/-- A setting that leaves the gather timers in agreement is written and answered. -/
theorem settle_serveSetting {α : Type} {set : α → State → Result × State} {c : Ctx} {x : α} {u v : State}
    {y : Result} (h : set x u = (y, v)) (hv : v.settled) : settle (serveSetting set c x u) = reply c y [] v := by
  rw [serveSetting, h, settle_reply_of_settled hv]

section
variable {s : State} {n : Nat}

theorem setAddress_range {m : Mac} (h : m.getLsbD 40 = true ∨ m = 0) : setAddress m s = (.range, s) := by
  refine if_neg fun hi => ?_
  obtain ⟨hgroup, hzero⟩ := (individual_iff m).1 hi
  rcases h with h | h
  · rw [h] at hgroup; cases hgroup
  · exact hzero h

theorem setHoldoff_eq (n : Nat) (s : State) : setHoldoff n s =
    (if n < 0 ∨ 255 < n then .clamped else .ok, { s with notice := { s.notice with holdoff := min 255 n } }) := by
  simp [setHoldoff, clampTo_zero, clampResult]

theorem sessionLimit_outside (n : Nat) : max 10 (min 3600 n) ≠ n ↔ n < 10 ∨ 3600 < n := by omega

theorem writerLimit_outside (n : Nat) : min 3600 n ≠ n ↔ n < 0 ∨ 3600 < n := by omega

theorem setSessionLimit_same (h : max 10 (min 3600 n) = s.sessionLimit) :
    setSessionLimit n s = (if n < 10 ∨ 3600 < n then .clamped else .ok, s) := by
  simp only [setSessionLimit, clampTo_eq (show 10 ≤ 3600 by decide), if_pos h,
    clampResult_of_outside (sessionLimit_outside n)]

/-- A session idle limit that changes restarts every session idle timer (R82). -/
theorem setSessionLimit_changed (h : max 10 (min 3600 n) ≠ s.sessionLimit) :
    setSessionLimit n s = (if n < 10 ∨ 3600 < n then .clamped else .ok, { s with
      sessionLimit := max 10 (min 3600 n)
      sessions := tabMap (fun x => { x with live := x.live.map fun l =>
        { l with idle := max 10 (min 3600 n) * 1000 } }) s.sessions }) := by
  simp only [setSessionLimit, clampTo_eq (show 10 ≤ 3600 by decide), if_neg h,
    clampResult_of_outside (sessionLimit_outside n)]

theorem setWriterLimit_same (h : min 3600 n = s.writerLimit) :
    setWriterLimit n s = (if n < 0 ∨ 3600 < n then .clamped else .ok, s) := by
  simp only [setWriterLimit, clampTo_zero, if_pos h, clampResult_of_outside (writerLimit_outside n)]

theorem setWriterLimit_changed (h : min 3600 n ≠ s.writerLimit) :
    setWriterLimit n s = (if n < 0 ∨ 3600 < n then .clamped else .ok,
      ({ s with writerLimit := min 3600 n } : State).restartWriterIdle) := by
  simp only [setWriterLimit, clampTo_zero, if_neg h, clampResult_of_outside (writerLimit_outside n)]

end

/-! ### The writer idle timers (R82) -/

/-- The restart of the writer idle timers changes the sessions alone. -/
theorem restartWriterIdle_eq (s : State) :
    s.restartWriterIdle = { s with sessions := s.restartWriterIdle.sessions } := by
  have same : { s.restartWriterIdle with sessions := s.sessions } = s :=
    forEach_reads (fun t : State => { t with sessions := s.sessions })
      (f := fun k t => if s.isWriter k then t.modAttachment k fun a => { a with writerIdle := s.freshWriterIdle }
        else t)
      (fun k t => by split <;> rfl) allSlots s
  exact congrArg (fun t : State => { t with sessions := s.restartWriterIdle.sessions }) same

theorem restartWriterIdle_attachment (s : State) (k : SlotId) :
    (s.restartWriterIdle.session k).attachment = (s.session k).attachment.map fun a =>
      if s.isWriter k then { a with writerIdle := s.freshWriterIdle } else a := by
  obtain ⟨t, ht, h⟩ := forEach_reads_one (g := fun t => t.session k) (List.nodup_finRange 64)
    (List.mem_finRange k)
    (f := fun j t => if s.isWriter j then t.modAttachment j fun a => { a with writerIdle := s.freshWriterIdle }
      else t)
    (fun j hj t => by
      split
      · exact session_modSession_ne t (Ne.symm hj) _
      · rfl) s
  rw [State.restartWriterIdle, allSlots, h]
  split
  · rw [modAttachment_session, if_pos rfl, mapAttachment_attachment, ht]
  · rw [ht]; simp

/-- What becomes of a writer idle timer is no content (R90). -/
theorem settled_of_writerIdle {s t : State} (hs : s.settled) (hports : t.ports = s.ports)
    {g : SlotId → Attachment → Attachment} (hg : ∀ k a, ∃ i, g k a = { a with writerIdle := i })
    (h : ∀ k, (t.session k).attachment = (s.session k).attachment.map (g k)) : t.settled := by
  intro k a ha
  rw [h] at ha
  obtain ⟨a', ha', rfl⟩ := Option.map_eq_some_iff.1 ha
  obtain ⟨i, hi⟩ := hg k a'
  rw [hi, State.port, hports]
  exact hs k a' ha'

theorem isWriter_accept (f : RxFrame) (s : State) (k : SlotId) : (accept f s).isWriter k = s.isWriter k := by
  simp only [State.isWriter, touched_attachment, accept_port]

/-! ### The seven writes -/

section
variable {s : State} {f : RxFrame} {op : Byte} (hs : s.settled)
include hs

theorem sessionLimit_written {n : Nat} (h : s.takesManage f op (.sessionIdleLimitWrite n)) :
    let v := max 10 (min 3600 n)
    let answered := s.afterFrame f [f.answer (some op) (if n < 10 ∨ 3600 < n then .clamped else .ok) []]
    ∃ t, exec .sessionIdleLimitWrite s = .next t ∧
      t = { answered with sessionLimit := v, sessions := t.sessions } ∧
      (v = s.sessionLimit → t.sessions = s.touched f) ∧
      (v ≠ s.sessionLimit → ∀ k : SlotId, (t.session k).live =
        (answered.session k).live.map fun l => { l with idle := v * 1000 }) := by
  dsimp only
  have limit : (accept f s).sessionLimit = s.sessionLimit := by rw [accept_eq]
  have hexec : exec .sessionIdleLimitWrite s =
      .next (settle (serveSetting setSessionLimit (s.ctx f (some op)) n (accept f s))) :=
    serveManage_of_takesManage h rfl
  rw [hexec]
  refine ⟨_, rfl, ?_⟩
  by_cases hv : max 10 (min 3600 n) = s.sessionLimit
  · rw [settle_serveSetting (setSessionLimit_same (hv.trans limit.symm)) (accept_settled hs f), reply_accept]
    exact ⟨by rw [hv]; rfl, fun _ => rfl, fun hne => absurd hv hne⟩
  · rw [settle_serveSetting (setSessionLimit_changed (by rwa [limit])) ?_]
    · refine ⟨by rw [accept_eq]; rfl, fun h => absurd h hv, fun _ k => ?_⟩
      simp only [reply, State.session, Fin.getElem_fin, tabMap_get]
      rw [accept_eq]; rfl
    · refine settled_of_attachments (accept_settled hs f) rfl fun k a ha => ?_
      simp only [State.session, Fin.getElem_fin, tabMap_get] at ha
      simpa [State.session, Session.attachment, Option.bind_map, Function.comp_def] using ha

theorem writerLimit_written {n : Nat} (h : s.takesManage f op (.writerIdleLimitWrite n)) :
    let v := min 3600 n
    let answered := s.afterFrame f [f.answer (some op) (if n < 0 ∨ 3600 < n then .clamped else .ok) []]
    ∃ t, exec .writerIdleLimitWrite s = .next t ∧
      t = { answered with writerLimit := v, sessions := t.sessions } ∧
      (v = s.writerLimit → t.sessions = s.touched f) ∧
      (v ≠ s.writerLimit → ∀ k : SlotId, (t.session k).attachment = (s.session k).attachment.map fun a =>
        if s.isWriter k then { a with writerIdle := if v = 0 then none else some (v * 1000) } else a) := by
  dsimp only
  have limit : (accept f s).writerLimit = s.writerLimit := by rw [accept_eq]
  have hexec : exec .writerIdleLimitWrite s =
      .next (settle (serveSetting setWriterLimit (s.ctx f (some op)) n (accept f s))) :=
    serveManage_of_takesManage h rfl
  rw [hexec]
  refine ⟨_, rfl, ?_⟩
  by_cases hv : min 3600 n = s.writerLimit
  · rw [settle_serveSetting (setWriterLimit_same (hv.trans limit.symm)) (accept_settled hs f), reply_accept]
    exact ⟨by rw [hv]; rfl, fun _ => rfl, fun hne => absurd hv hne⟩
  · generalize hu : ({ accept f s with writerLimit := min 3600 n } : State) = u
    have attachment : ∀ k, (u.restartWriterIdle.session k).attachment =
        (s.session k).attachment.map fun a => if s.isWriter k then
          { a with writerIdle := if min 3600 n = 0 then none else some (min 3600 n * 1000) } else a := by
      intro k
      rw [restartWriterIdle_attachment, ← isWriter_accept f s k, ← touched_attachment f s k, ← hu]
      rfl
    have settled : u.restartWriterIdle.settled := by
      refine settled_of_writerIdle hs ?_ (fun k a => ?_) attachment
      · rw [restartWriterIdle_eq, ← hu, accept_eq]
      · split
        · exact ⟨_, rfl⟩
        · exact ⟨a.writerIdle, rfl⟩
    rw [settle_serveSetting (by rw [setWriterLimit_changed (by rwa [limit]), hu]) settled]
    refine ⟨?_, fun h => absurd h hv, fun _ => attachment⟩
    rw [restartWriterIdle_eq u, ← hu, accept_eq]; rfl

end

/-- Settles O56: each setting as its `set` function writes it, on a state whose timers agree. -/
theorem settingWrites : Obligations.SettingWrites := by
  intro s f op m hs htakes
  have settled := accept_settled hs f
  refine ⟨?_, ?_, ?_, ?_, ?_, ?_, ?_⟩
  · rintro x rfl
    have hexec : exec (Manage.stationAddressWrite x).row s =
        .next (settle (serveSetting setAddress (s.ctx f (some op)) x (accept f s))) :=
      serveManage_of_takesManage htakes rfl
    refine ⟨fun h => ?_, fun hgroup hzero => ?_⟩
    · rw [hexec, settle_serveSetting (setAddress_range h) settled, reply_accept]
    · rw [hexec, settle_serveSetting (if_pos ((individual_iff x).2 ⟨hgroup, hzero⟩)) (by exact settled), accept_eq]
      rfl
  · rintro n rfl hn
    have hexec : exec (Manage.frameTypeWrite n).row s =
        .next (settle (serveSetting setFrameType (s.ctx f (some op)) n (accept f s))) :=
      serveManage_of_takesManage htakes rfl
    refine ⟨fun h => ?_, fun h => ?_⟩
    · rw [hexec, settle_serveSetting (if_neg fun hlegal => Nat.not_le.2 h hlegal.1) settled, reply_accept]
    · rw [hexec, settle_serveSetting (if_pos ⟨h, Nat.le_of_lt_succ hn⟩) (by exact settled), accept_eq]
      rfl
  · rintro x rfl
    have hexec : exec (Manage.noticeDestinationWrite x).row s =
        .next (settle (serveSetting setDestination (s.ctx f (some op)) x (accept f s))) :=
      serveManage_of_takesManage htakes rfl
    rw [hexec, settle_serveSetting (set := setDestination) rfl (by exact settled), accept_eq]
    rfl
  · rintro x rfl
    have hexec : exec (Manage.noticeMaskWrite x).row s =
        .next (settle (serveSetting setMask (s.ctx f (some op)) x (accept f s))) :=
      serveManage_of_takesManage htakes rfl
    refine ⟨fun h => ?_, fun h => ?_⟩
    · rw [hexec, settle_serveSetting (if_neg (Nat.not_lt.2 h)) settled, reply_accept]
    · rw [hexec, settle_serveSetting (if_pos h) (by exact settled), accept_eq]
      rfl
  · rintro n rfl
    have hexec : exec (Manage.holdoffWrite n).row s =
        .next (settle (serveSetting setHoldoff (s.ctx f (some op)) n (accept f s))) :=
      serveManage_of_takesManage htakes rfl
    rw [hexec, settle_serveSetting (setHoldoff_eq n _) (by exact settled), accept_eq]
    rfl
  · rintro n rfl
    exact sessionLimit_written hs htakes
  · rintro n rfl
    exact writerLimit_written hs htakes

end Sys2Proof.Machine
end

section
/-! PROOFS. The lines of the ports: their state, profiles, counters and captured bytes, which marks, key-in
entries and sessions leave as they are, and a profile switch changes on one port in the state alone. -/

namespace Sys2Proof.Machine

/-! ### What key-in entries, pulses and sessions leave of a port -/

/-- What of a port neither a mark nor an item of the transmitter changes: its state, its two profiles, its
counters and the bytes its ring holds. -/
abbrev Port.line (q : Port) : PortState × Profile × Option Profile × Counters × List Byte :=
  (q.state, q.active, q.staged, q.counters, q.ring.held)

def State.lines (s : State) (p : PortId) : PortState × Profile × Option Profile × Counters × List Byte :=
  (s.port p).line

theorem lines_of_ports {s t : State} (h : t.ports = s.ports) : t.lines = s.lines := by
  funext p
  rw [State.lines, State.lines, State.port, State.port, h]

theorem modPort_lines (s : State) (p : PortId) (f : Port → Port) :
    (s.modPort p f).lines = Function.update s.lines p (f (s.port p)).line := by
  funext j
  rw [State.lines, port_modPort, Function.update_apply]
  split <;> rfl

theorem modPort_lines_same {s : State} {p : PortId} {f : Port → Port}
    (hf : ∀ q, (f q).line = q.line := by exact fun _ => rfl) : (s.modPort p f).lines = s.lines := by
  rw [modPort_lines, hf]
  exact Function.update_eq_self p s.lines

theorem raise_lines (c : Cause) (p : Option PortId) (arg : Word16) (s : State) :
    (raise c p arg s).lines = s.lines := lines_of_ports (raise_ports c p arg s)

theorem writeMark_lines (p : PortId) (kind : MarkKind) (arg : Word16) (s : State) :
    (writeMark p kind arg s).lines = s.lines := by
  funext j
  by_cases hj : j = p
  · subst hj; simp [State.lines]
  · simp [State.lines, hj]

/-! #### The transmitter and the key-in unit -/

theorem startQueued_line (q : Port) : q.startQueued.line = q.line := by
  unfold Port.startQueued; split
  · rfl
  · split <;> rfl

theorem startKeyinItem_lines (p : PortId) (e : KeyinId) (s : State) :
    (startKeyinItem p e s).lines = s.lines := by
  unfold startKeyinItem; split
  · rfl
  · exact modPort_lines_same

theorem txChoice_lines (p : PortId) (s : State) : (txChoice p s).lines = s.lines := by
  unfold txChoice; split
  · rfl
  · split
    · exact startKeyinItem_lines p _ s
    · exact modPort_lines_same startQueued_line

theorem startEntry_lines (e : KeyinId) (s : State) : (startEntry e s).lines = s.lines := by
  rw [startEntry, txChoice_lines, writeMark_lines]; rfl

theorem startStep_lines (p : PortId) (s : State) : (startStep p s).lines = s.lines := by
  unfold startStep; split
  · rfl
  · split
    · exact startEntry_lines _ s
    · rfl

theorem report_lines (held : Option PortId) (r : Report) (s : State) : (report held r s).lines = s.lines := by
  unfold report; dsimp only
  rw [forEach_reads State.lines startStep_lines, forEach_reads State.lines (f := makePending) fun _ _ => rfl]

theorem keyinAction_lines (e : KeyinId) (s : State) : (keyinAction e s).lines = s.lines := by
  unfold keyinAction; dsimp only; split
  · exact startStep_lines _ _
  · rfl

theorem endRecord_lines (e : KeyinId) (o : Outcome) (s : State) : (endRecord e o s).lines = s.lines :=
  (raise_lines _ _ _ _).trans (writeMark_lines _ _ _ s)

theorem endHeld_lines (e : KeyinId) (o : Outcome) (s : State) : (endHeld e o s).lines = s.lines :=
  (report_lines _ _ _).trans (endRecord_lines e o s)

theorem endEntry_lines (e : KeyinId) (o : Outcome) (s : State) : (endEntry e o s).lines = s.lines := by
  unfold endEntry; dsimp only; split
  · rw [txChoice_lines, startStep_lines, endHeld_lines]
  · exact endHeld_lines e o s

theorem stopEntry_lines (e : KeyinId) (o : Outcome) (s : State) : (stopEntry e o s).lines = s.lines := by
  unfold stopEntry; split
  · rfl
  · split
    · rfl
    · split
      · rfl
      · exact endEntry_lines e o s

/-! #### Pulses and actions -/

theorem startPulse_lines (p : PortId) (s : State) : (startPulse p s).lines = s.lines :=
  (writeMark_lines _ _ _ _).trans modPort_lines_same

theorem cutPulse_lines (p : PortId) (s : State) : (cutPulse p s).lines = s.lines := by
  unfold cutPulse; split
  · exact (writeMark_lines _ _ _ _).trans modPort_lines_same
  · rfl

/-- An action on a port with no staged profile leaves the lines (R120, R121). -/
theorem performAction_lines (a : Action) {p : PortId} {s : State} (hp : (s.port p).staged = none) :
    (performAction a p s).lines = s.lines := by
  cases a with
  | none => rfl
  | hold => exact modPort_lines_same (f := fun q => { q with hold := true })
  | release => exact (txChoice_lines p _).trans modPort_lines_same
  | pulse =>
    show (pulseAction p s).lines = s.lines
    unfold pulseAction; split
    · rfl
    · exact startPulse_lines p s
  | stage =>
    show (stageAction p s).lines = s.lines
    simp only [stageAction, hp]
  | keyin e => exact keyinAction_lines e s
  | stopKeyin =>
    show (stopKeyinAction p s).lines = s.lines
    unfold stopKeyinAction; split
    · exact stopEntry_lines _ _ s
    · rfl

theorem fireComparator_lines (i : ComparatorId) {s : State} (h : ∀ p, (s.port p).staged = none) :
    (fireComparator i s).lines = s.lines := by
  unfold fireComparator
  rw [report_lines, performAction_lines _ (by rw [raise_port]; exact h _), raise_lines]

/-! #### Sessions -/

theorem leaveWaitList_lines (p : PortId) (k : SlotId) (s : State) : (leaveWaitList p k s).lines = s.lines := by
  funext j
  rw [State.lines, leaveWaitList_port]
  split
  next hj => rw [hj]; rfl
  · rfl

theorem releaseWriter_lines (p : PortId) (s : State) : (releaseWriter p s).lines = s.lines := by
  funext j
  rw [State.lines, releaseWriter_port]
  split
  next hj => rw [hj]; rfl
  · rfl

theorem leavePort_lines (k : SlotId) (s : State) : (leavePort k s).lines = s.lines := by
  unfold leavePort; split
  · rfl
  · dsimp only; rw [leaveWaitList_lines]; split
    · exact releaseWriter_lines _ s
    · rfl

theorem closeSession_lines (k : SlotId) (s : State) : (closeSession k s).lines = s.lines := leavePort_lines k s

theorem applyStation_lines (e : StationId) (x : Station) (s : State) : (applyStation e x s).lines = s.lines :=
  forEach_reads State.lines closeSession_lines _ s

/-! ### A profile switch (R7, R8) -/

/-- From s to t one port has come to a state other than DISABLED, and the lines are otherwise the same. -/
def PortEntered (p : PortId) (s t : State) : Prop :=
  ∃ x : PortState, x ≠ .disabled ∧ t.lines = Function.update s.lines p (x, (s.lines p).2)

namespace PortEntered
variable {p : PortId} {s t u : State}

theorem then_lines (h : PortEntered p s t) (e : u.lines = t.lines) : PortEntered p s u := by
  obtain ⟨x, hx, hlines⟩ := h
  exact ⟨x, hx, e.trans hlines⟩

theorem trans (h : PortEntered p s t) (g : PortEntered p t u) : PortEntered p s u := by
  obtain ⟨x, -, ht⟩ := h
  obtain ⟨y, hy, hu⟩ := g
  exact ⟨y, hy, by rw [hu, ht, Function.update_self, Function.update_idem]⟩

theorem modPort {f : Port → Port} {x : PortState} (hx : x ≠ .disabled)
    (hf : ∀ q, (f q).line = (x, q.line.2)) : PortEntered p s (s.modPort p f) :=
  ⟨x, hx, by rw [modPort_lines, hf]; rfl⟩

end PortEntered

theorem switchSense_line (old : AuxB) (enabling : Bool) (q : Port) :
    (q.switchSense old enabling).line = q.line := by
  unfold Port.switchSense; repeat' split
  all_goals rfl

theorem enterSwitching_entered (p : PortId) (old : Profile) (arg : Word16) (s : State) :
    PortEntered p s (enterSwitching p old arg s) := by
  have entered := PortEntered.modPort (p := p) (s := s) (x := .switching)
    (f := fun q => { q.abandonLine with state := .switching, rateFound := false }) (by decide) fun _ => rfl
  unfold enterSwitching; dsimp only
  refine entered.then_lines ?_
  rw [writeMark_lines, modPort_lines_same (switchSense_line old.auxB _)]
  split
  · rfl
  · exact cutPulse_lines p _

theorem endSwitching_entered (p : PortId) (s : State) : PortEntered p s (endSwitching p s) := by
  unfold endSwitching; split
  · have entered := PortEntered.modPort (p := p) (s := s) (x := .detecting) (f := Port.enterDetecting)
      (by decide) fun _ => rfl
    exact entered.then_lines (txChoice_lines p _)
  · have entered := PortEntered.modPort (p := p) (s := s) (x := .live)
      (f := fun q => { q with
        state := .live, divisor := divisorOf (s.port p).active.fixedRate, breakSeen := false })
      (by decide) fun _ => rfl
    refine entered.then_lines ?_
    unfold enterLiveWith; dsimp only
    rw [txChoice_lines, report_lines, raise_lines, writeMark_lines]

theorem PortEntered.settleSwitching {p : PortId} {s t : State} (h : PortEntered p s t) :
    PortEntered p s (settleSwitching p t) := by
  unfold Machine.settleSwitching; split
  · exact h.trans (endSwitching_entered p t)
  · exact h

/-- A profile switch leaves its port out of DISABLED, and changes no other line (R7, R8). -/
theorem profileSwitch_entered (p : PortId) (old : Profile) (arg : Word16) (s : State) :
    PortEntered p s (profileSwitch p old arg s) := by
  unfold profileSwitch; dsimp only
  refine PortEntered.settleSwitching ((enterSwitching_entered p old arg s).then_lines ?_)
  split
  · exact startStep_lines p _
  · rfl

/-! ### Step 9 of R184 -/

theorem startPort_lines_ne {p q : PortId} (h : q ≠ p) (s : State) : (startPort q s).lines p = s.lines p := by
  unfold startPort; split
  · obtain ⟨x, -, hx⟩ := profileSwitch_entered q (s.port q).active 4 s
    rw [hx, Function.update_of_ne h.symm]
  · rfl

/-- A port starts with no staged profile, its counters at 0 and its ring empty. -/
abbrev Port.unstarted (q : Port) : Prop :=
  q.state = .disabled ∧ q.staged = none ∧ q.counters = .zero ∧ q.ring.held = []

/-- The state of the ports as start-up finds them: every one in DISABLED. -/
abbrev State.unstarted (s : State) : Prop := ∀ p, (s.port p).unstarted

/-- A port is in DISABLED after the ports have started exactly where its profile is not enabled. -/
theorem startPorts_port {s : State} (hs : s.unstarted) (p : PortId) :
    let q := (forEach allPorts startPort s).port p
    q.counters = .zero ∧ q.ring.held = [] ∧ (q.state = .disabled ↔ q.active.enable = false) := by
  obtain ⟨t, ht, h⟩ := forEach_reads_one (g := fun t => t.lines p) (f := startPort) (List.nodup_finRange 32)
    (List.mem_finRange p) (fun q hq u => startPort_lines_ne hq u) s
  obtain ⟨hstate, -, hcounters, hheld⟩ := hs p
  simp only [State.lines, Port.line, Prod.mk.injEq] at ht h
  obtain ⟨tstate, tactive, -, tcounters, theld⟩ := ht
  obtain ⟨qstate, qactive, -, qcounters, qheld⟩ := h
  dsimp only [allPorts]
  rw [qstate, qactive, qcounters, qheld]
  unfold startPort
  split
  next henable =>
    obtain ⟨x, hx, hlines⟩ := profileSwitch_entered p (t.port p).active 4 t
    have hp := congrFun hlines p
    rw [Function.update_self] at hp
    simp only [State.lines, Port.line, Prod.mk.injEq] at hp
    obtain ⟨pstate, pactive, -, pcounters, pheld⟩ := hp
    rw [pstate, pactive, pcounters, pheld, tcounters, theld, henable]
    exact ⟨hcounters, hheld, fun e => absurd e hx, fun e => by cases e⟩
  next henable =>
    rw [tcounters, theld, tstate]
    exact ⟨hcounters, hheld, fun _ => by simpa using henable, fun _ => hstate⟩

end Sys2Proof.Machine
end

section
/-! PROOFS. Start-up: what the loading of an image leaves, and the part as cold reset starts it. -/

namespace Sys2Proof.Machine

/-! ### The settings record (R178, R183) -/

theorem setAddress_eq (m : Mac) (s : State) : (setAddress m s).2 =
    { s with uplink := { s.uplink with address := if individual m then m else s.uplink.address } } := by
  unfold setAddress; split <;> rfl

theorem setFrameType_eq (n : Nat) (s : State) :
    ∃ w, (setFrameType n s).2 = { s with uplink := { s.uplink with frameType := w } } := by
  unfold setFrameType; split
  · exact ⟨_, rfl⟩
  · exact ⟨s.uplink.frameType, rfl⟩

theorem setMask_eq (m : Word32) (s : State) :
    ∃ w, (setMask m s).2 = { s with notice := { s.notice with mask := w } } := by
  unfold setMask; split
  · exact ⟨_, rfl⟩
  · exact ⟨s.notice.mask, rfl⟩

theorem setSessionLimit_eq (n : Nat) (s : State) : ∃ v,
    (setSessionLimit n s).2 = { s with sessionLimit := max 10 (min 3600 n), sessions := v } := by
  by_cases h : max 10 (min 3600 n) = s.sessionLimit
  · exact ⟨s.sessions, by rw [setSessionLimit_same h, h]⟩
  · exact ⟨_, by rw [setSessionLimit_changed h]⟩

theorem setWriterLimit_eq (n : Nat) (s : State) : ∃ v,
    (setWriterLimit n s).2 = { s with writerLimit := min 3600 n, sessions := v } := by
  by_cases h : min 3600 n = s.writerLimit
  · exact ⟨s.sessions, by rw [setWriterLimit_same h, h]⟩
  · exact ⟨_, by rw [setWriterLimit_changed h]; exact restartWriterIdle_eq _⟩

theorem uplinkSettings_eq (m : Mac) (n : Nat) (s : State) :
    ∃ w, (setFrameType n (setAddress m s).2).2 = { s with uplink := { s.uplink with
      address := if individual m then m else s.uplink.address, frameType := w } } := by
  obtain ⟨w, hw⟩ := setFrameType_eq n (setAddress m s).2
  exact ⟨w, by rw [hw, setAddress_eq]⟩

theorem noticeSettings_eq (w : Word32) (d : Mac) (n : Nat) (s : State) :
    ∃ m, (setHoldoff n (setDestination d (setMask w s).2).2).2 = { s with notice := { s.notice with
      mask := m, destination := if d = 0 then none else some d, holdoff := min 255 n } } := by
  obtain ⟨m, hm⟩ := setMask_eq w s
  exact ⟨m, by rw [setHoldoff_eq, hm]; rfl⟩

theorem idleLimits_eq (k n : Nat) (s : State) : ∃ v, (setWriterLimit n (setSessionLimit k s).2).2 =
    { s with sessionLimit := max 10 (min 3600 k), writerLimit := min 3600 n, sessions := v } := by
  obtain ⟨v, hv⟩ := setSessionLimit_eq k s
  obtain ⟨v', hv'⟩ := setWriterLimit_eq n (setSessionLimit k s).2
  exact ⟨v', by rw [hv', hv]⟩

/-- A settings record changes the settings, and the session records alone besides. -/
theorem loadSettings_eq (r : RawSettings) (s : State) : ∃ v w m, loadSettings r s = { s with
    sessions := v
    sessionLimit := max 10 (min 3600 r.sessionLimit)
    writerLimit := min 3600 r.writerLimit
    uplink := { s.uplink with
      address := if individual r.address then r.address else s.uplink.address, frameType := w }
    notice := { s.notice with
      mask := m
      destination := if r.destination = 0 then none else some r.destination
      holdoff := min 255 r.holdoff } } := by
  obtain ⟨w, hw⟩ := uplinkSettings_eq r.address r.frameType s
  generalize hu : (setFrameType r.frameType (setAddress r.address s).2).2 = u at hw
  obtain ⟨m, hm⟩ := noticeSettings_eq r.mask r.destination r.holdoff u
  generalize ht : (setHoldoff r.holdoff (setDestination r.destination (setMask r.mask u).2).2).2 = t at hm
  obtain ⟨v, hv⟩ := idleLimits_eq r.sessionLimit r.writerLimit t
  refine ⟨v, w, m, ?_⟩
  unfold loadSettings
  dsimp only
  rw [hu, ht, hv, hm, hw]

/-! ### The loading of the records (R183, R184) -/

theorem unstarted_of_lines {s t : State} (h : t.lines = s.lines) (hs : s.unstarted) : t.unstarted := by
  intro p
  have hp := congrFun h p
  simp only [State.lines, Port.line, Prod.mk.injEq] at hp
  obtain ⟨hstate, -, hstaged, hcounters, hheld⟩ := hp
  rw [Port.unstarted, hstate, hstaged, hcounters, hheld]
  exact hs p

theorem modPort_unstarted {s : State} {p : PortId} {f : Port → Port} (hs : s.unstarted)
    (hf : (s.port p).unstarted → (f (s.port p)).unstarted) : (s.modPort p f).unstarted := by
  intro j
  rw [port_modPort]
  split
  · exact hf (hs p)
  · exact hs j

theorem applyVector_unstarted {s : State} (blocks : List Nat) (hs : s.unstarted) :
    (applyVector blocks s).unstarted := by
  refine forEach_keeps State.unstarted (fun p _ t ht => ?_) hs
  split
  · exact ht
  · intro j
    rw [emptyRing_port]
    obtain ⟨hstate, hstaged, hcounters, -⟩ := ht p
    split
    · exact ⟨hstate, hstaged, hcounters, rfl⟩
    · exact ht j

theorem applyComparator_unstarted {s : State} (i : ComparatorId) (c : Comparator) (hs : s.unstarted) :
    (applyComparator i c s).unstarted := by
  have fired : ∀ t : State, t.ports = s.ports → (fireComparator i t).unstarted := fun t ht => by
    have same := lines_of_ports ht
    refine unstarted_of_lines ((fireComparator_lines i fun p => ?_).trans same) hs
    exact (unstarted_of_lines same hs p).2.1
  unfold applyComparator
  split
  · dsimp only; split
    · exact fired _ rfl
    · exact hs
  · exact hs

/-- A record leaves every port in DISABLED, as its step does. -/
theorem loadRecord_unstarted (x : LoadStep) (r : ImageRecord) {s : State} (hs : s.unstarted) :
    (loadRecord x r s).unstarted := by
  unfold loadRecord
  split
  next r =>
    obtain ⟨v, w, m, h⟩ := loadSettings_eq r s
    rw [h]; exact hs
  · split
    · unfold loadStation; split
      · exact unstarted_of_lines (applyStation_lines _ _ s) hs
      · exact hs
    · exact hs
  · unfold loadAllocation; split
    · exact applyVector_unstarted _ hs
    · exact hs
  · unfold loadProfile; split
    · exact hs
    · split
      · exact modPort_unstarted hs fun h => h
      · exact hs
  · unfold loadPattern; split <;> exact hs
  · unfold loadKeyin; split
    · exact hs
    · split <;> exact hs
  · split
    · unfold loadComparator; split
      · exact applyComparator_unstarted _ _ hs
      · exact hs
    · exact hs
  · exact hs

theorem loadSteps_unstarted (xs : List LoadStep) (rs : List ImageRecord) {s : State} (hs : s.unstarted) :
    (forEach xs (loadStep rs) s).unstarted :=
  forEach_keeps State.unstarted
    (fun x _ _ ht => forEach_keeps State.unstarted (fun r _ _ hu => loadRecord_unstarted x r hu) ht) hs

theorem applyCommission_ports (b : Bool) (s : State) : (applyCommission b s).ports = s.ports := by
  unfold applyCommission; split <;> rfl

theorem loadImage_unstarted (b : Bool) {s : State} (hs : s.unstarted) : (loadImage b s).unstarted := by
  have commissioned : ∀ t : State, t.unstarted → (applyCommission b t).unstarted := fun t =>
    unstarted_of_lines (lines_of_ports (applyCommission_ports b t))
  unfold loadImage; dsimp only; split
  · exact loadSteps_unstarted _ _ (commissioned _ (loadSteps_unstarted _ _ hs))
  · exact commissioned _ (unstarted_of_lines (raise_lines _ _ _ s) hs)

/-! ### What the loading and the start of the ports leave -/

theorem emptyRing_outside (p : PortId) (n : Nat) (s : State) : (emptyRing p n s).outside = s.outside := by
  simp [emptyRing, State.testContent]

theorem applyVector_outside (blocks : List Nat) (s : State) : (applyVector blocks s).outside = s.outside := by
  refine forEach_reads State.outside (fun p t => ?_) allPorts s
  split
  · rfl
  · exact emptyRing_outside p _ t

theorem applyComparator_outside (i : ComparatorId) (c : Comparator) (s : State) :
    (applyComparator i c s).outside = s.outside := by
  unfold applyComparator; split
  · dsimp only; split
    · exact fireComparator_outside _ _
    · rfl
  · rfl

/-- Steps 4 to 8 of R184 leave the stations, the settings of the uplink and the memory. -/
theorem loadRecord_outside {x : LoadStep} (hx : x ∈ lateSteps) (r : ImageRecord) (s : State) :
    (loadRecord x r s).outside = s.outside := by
  unfold loadRecord
  split
  · simp [lateSteps] at hx
  · simp [lateSteps] at hx
  · unfold loadAllocation; split
    · exact applyVector_outside _ s
    · rfl
  · unfold loadProfile; split
    · rfl
    · split <;> rfl
  · unfold loadPattern; split <;> rfl
  · unfold loadKeyin; split
    · rfl
    · split <;> rfl
  · split
    · unfold loadComparator; split
      · exact applyComparator_outside _ _ s
      · rfl
    · rfl
  · rfl

theorem lateSteps_outside (rs : List ImageRecord) (s : State) :
    (forEach lateSteps (loadStep rs) s).outside = s.outside :=
  forEach_keeps (fun t => t.outside = s.outside)
    (fun _ hx t ht => (forEach_reads State.outside (loadRecord_outside hx) rs t).trans ht) rfl

theorem startPorts_outside (s : State) : (forEach allPorts startPort s).outside = s.outside := by
  refine forEach_reads State.outside (fun p t => ?_) allPorts s
  unfold startPort; split
  · exact profileSwitch_outside _ _ _ _
  · rfl

/-- A save in progress and the configuration memory. -/
abbrev State.image (s : State) : Option (List ImageRecord) × ConfigMemory := (s.saving, s.memory)

theorem image_of_outside {s t : State} (h : t.outside = s.outside) : t.image = s.image := by
  simp only [State.outside, Prod.mk.injEq] at h
  obtain ⟨-, -, -, -, -, hsaving, hmemory, -⟩ := h
  rw [State.image, hsaving, hmemory]

theorem applyStation_image (e : StationId) (x : Station) (s : State) : (applyStation e x s).image = s.image := by
  have closed := image_of_outside (closeSessions_outside (s.slotsOf e) s)
  exact closed

theorem loadRecord_image (x : LoadStep) (r : ImageRecord) (s : State) : (loadRecord x r s).image = s.image := by
  by_cases hx : x ∈ lateSteps
  · exact image_of_outside (loadRecord_outside hx r s)
  · cases x with
    | settings =>
      cases r with
      | settings r =>
        obtain ⟨v, w, m, h⟩ := loadSettings_eq r s
        show (loadSettings r s).image = _
        rw [h]
      | _ => rfl
    | station e =>
      cases r with
      | station w =>
        show (if w.entry = e.val then loadStation w s else s).image = _
        split
        · unfold loadStation; split
          · exact applyStation_image _ _ s
          · rfl
        · rfl
      | _ => rfl
    | comparator i => exact absurd (by simp [lateSteps, allComparators]) hx
    | _ => exact absurd (by simp [lateSteps]) hx

theorem earlySteps_image (rs : List ImageRecord) (s : State) :
    (forEach earlySteps (loadStep rs) s).image = s.image :=
  forEach_reads State.image (fun x t => forEach_reads State.image (loadRecord_image x) rs t) earlySteps s

/-- The settings of the notice unit, and those of the uplink, with the two idle limits and the queues of the
uplink. -/
theorem enterLiveWith_settings (p : PortId) (n : Nat) (s : State) :
    (enterLiveWith p n s).configuration.2 = s.configuration.2 := by
  simp only [enterLiveWith, txChoice_configuration, report_configuration, raise_configuration,
    writeMark_configuration]
  rfl

theorem profileSwitch_settings (p : PortId) (old : Profile) (arg : Word16) (s : State) :
    (profileSwitch p old arg s).configuration.2 = s.configuration.2 := by
  have ended : ∀ t : State, (settleSwitching p t).configuration.2 = t.configuration.2 := fun t => by
    unfold settleSwitching; split
    · unfold endSwitching; split
      · rw [txChoice_configuration]; rfl
      · exact enterLiveWith_settings p _ t
    · rfl
  unfold profileSwitch; dsimp only
  rw [ended]
  split
  · rw [startStep_configuration, enterSwitching_configuration]
  · rw [enterSwitching_configuration]

theorem startPorts_settings (s : State) :
    (forEach allPorts startPort s).configuration.2 = s.configuration.2 := by
  refine forEach_reads (fun t : State => t.configuration.2) (fun p t => ?_) allPorts s
  unfold startPort; split
  · exact profileSwitch_settings _ _ _ _
  · rfl

end Sys2Proof.Machine
end

section
/-! PROOFS. COLD_RESET, with no good image and with a good one. -/

namespace Sys2Proof.Machine

/-! ### The image (R183, R185) -/

theorem imageGood_iff (m : ConfigMemory) : imageGood m = true ↔ m.answers = true ∧ m.marker = true ∧
    byteSum ((imageBytes m.records ++ m.rest).take m.length) = m.sum := by
  simp [imageGood, sumAgrees, and_assoc]

theorem loadImage_good {b : Bool} {s : State} (h : imageGood s.memory = true) :
    loadImage b s = forEach lateSteps (loadStep (imageRecordsOf s.memory))
      (applyCommission b (forEach earlySteps (loadStep (imageRecordsOf s.memory)) s)) :=
  if_pos h

theorem loadImage_bad {b : Bool} {s : State} (h : imageGood s.memory = false) :
    loadImage b s = applyCommission b (raise .imageFault none (imageFaultArgument s.memory) s) :=
  if_neg (by rw [h]; decide)

/-- A settings record alone is loaded at its step, and no other step loads anything. -/
theorem loadImage_settings {b : Bool} {s : State} {r : RawSettings} (h : imageGood s.memory = true)
    (hr : imageRecordsOf s.memory = [.settings r]) :
    loadImage b s = applyCommission b (loadSettings r s) := by
  have idle : ∀ (xs : List LoadStep) (t : State), (∀ x ∈ xs, x ≠ .settings) →
      forEach xs (loadStep [.settings r]) t = t := fun xs t hxs =>
    forEach_keeps (· = t) (fun x hx u hu => by
      have : loadRecord x (.settings r) u = u := by
        cases x with
        | settings => exact absurd rfl (hxs _ hx)
        | _ => rfl
      exact this.trans hu) rfl
  rw [loadImage_good h, hr, idle lateSteps _ (by simp [lateSteps]), earlySteps, forEach_cons,
    idle _ _ (by simp)]
  rfl

/-! ### The state as the last steps of R184 find it -/

theorem applyCommission_commissioning (b : Bool) (s : State) : (applyCommission b s).commissioning = b := by
  unfold applyCommission; cases b <;> rfl

theorem applyCommission_wildcard (s : State) : (applyCommission true s).station 0 = Station.wildcard := by
  simp [applyCommission, State.station]

theorem applyCommission_image (b : Bool) (s : State) : (applyCommission b s).image = s.image := by
  unfold applyCommission; split <;> rfl

theorem applyCommission_sessions (b : Bool) (s : State) : (applyCommission b s).sessions = s.sessions := by
  unfold applyCommission; split <;> rfl

theorem loadImage_good_commission {b : Bool} {s : State} (h : imageGood s.memory = true) :
    (loadImage b s).commissioning = b ∧ (b = true → (loadImage b s).station 0 = Station.wildcard) := by
  rw [loadImage_good h]
  generalize forEach earlySteps _ s = t
  have hout := lateSteps_outside (imageRecordsOf s.memory) (applyCommission b t)
  simp only [State.outside, Prod.mk.injEq] at hout
  obtain ⟨hstations, hcommissioning, -⟩ := hout
  refine ⟨hcommissioning.trans (applyCommission_commissioning b t), ?_⟩
  rintro rfl
  rw [State.station, hstations]
  exact applyCommission_wildcard t

theorem loadImage_good_image {b : Bool} {s : State} (h : imageGood s.memory = true) :
    (loadImage b s).image = s.image := by
  rw [loadImage_good h, image_of_outside (lateSteps_outside _ _), applyCommission_image, earlySteps_image]

theorem coldState_unstarted (x : ColdInputs) (s : State) : (coldState x s).unstarted := fun p => by
  rw [coldState_port]
  exact ⟨rfl, rfl, rfl, rfl⟩

theorem openReceive_outside {s t : State} (h : t.outside = s.outside) :
    (openReceive t).outside = (openReceive s).outside := by
  simp only [State.outside, Prod.mk.injEq] at h
  obtain ⟨hstations, hcommissioning, huplink, hsession, hwriter, hsaving, hmemory, hpending⟩ := h
  simp only [State.outside, openReceive, hstations, hcommissioning, huplink, hsession, hwriter, hsaving,
    hmemory, hpending]

/-- The next state of COLD_RESET. -/
abbrev State.afterColdReset (x : ColdInputs) (s : State) : State :=
  settle (startUp x.commission (coldState x s))

section
variable (x : ColdInputs) (s : State)

theorem afterColdReset_outside : (s.afterColdReset x).outside =
    (openReceive (loadImage x.commission (coldState x s))).outside :=
  (settle_outside _).trans (openReceive_outside (startPorts_outside _))

theorem afterColdReset_session (k : SlotId) : (s.afterColdReset x).session k = ⟨0, none⟩ := by
  obtain ⟨hwriters, hqueues, -⟩ := coldState_sound x s
  obtain ⟨-, hfree⟩ := loadImage_sound x.commission hwriters hqueues (coldState_session x s)
  have started := (KeepsSeats.refl (loadImage x.commission (coldState x s))).startPorts.openReceive.settle
  exact (started.free k (by rw [hfree k])).trans (hfree k)

theorem afterColdReset_queues :
    (s.afterColdReset x).uplink.rxQueue = [] ∧ (s.afterColdReset x).uplink.replies = [] := by
  have started := (startUp_keeps x.commission (coldState x s)).then_configuration (settle_configuration _)
  exact ⟨List.eq_nil_of_length_eq_zero (Nat.le_zero.1 started.received),
    List.eq_nil_of_length_eq_zero (Nat.le_zero.1 started.replies)⟩

theorem settle_openReceive_port (t : State) (p : PortId) : (settle (openReceive t)).port p = t.port p := rfl

theorem settle_openReceive_settings (t : State) :
    (settle (openReceive t)).configuration.2 = t.configuration.2 := rfl

theorem afterColdReset_port (p : PortId) : ((s.afterColdReset x).port p).counters = .zero ∧
    ((s.afterColdReset x).port p).ring.held = [] ∧
    (((s.afterColdReset x).port p).state = .disabled ↔
      ((s.afterColdReset x).port p).active.enable = false) := by
  rw [State.afterColdReset, startUp, settle_openReceive_port]
  exact startPorts_port (loadImage_unstarted x.commission (coldState_unstarted x s)) p

end

/-! ### No good image -/

/-- Where no profile is enabled, no port starts. -/
theorem startPorts_of_disabled {s : State} (h : ∀ p, (s.port p).active.enable = false) :
    forEach allPorts startPort s = s :=
  forEach_keeps (· = s) (fun p _ t ht => by
    subst ht
    exact if_neg (by rw [h p]; decide)) rfl

/-- The part with no good image (R184): the reset state, and one cause raised. -/
theorem afterColdReset_bad {x : ColdInputs} {s : State} (h : imageGood (coldState x s).memory = false) :
    s.afterColdReset x = openReceive (applyCommission x.commission
      (raise .imageFault none (imageFaultArgument (coldState x s).memory) (coldState x s))) := by
  have loaded : loadImage x.commission (coldState x s) = _ := loadImage_bad h
  have ports : (loadImage x.commission (coldState x s)).ports = (coldState x s).ports := by
    rw [loaded, applyCommission_ports, raise_ports]
  have idle := startPorts_of_disabled (s := loadImage x.commission (coldState x s)) fun p => by
    rw [State.port, ports]
    exact congrArg (fun q : Port => q.active.enable) (coldState_port x s p)
  have started : startUp x.commission (coldState x s) = openReceive (loadImage x.commission (coldState x s)) :=
    congrArg openReceive idle
  rw [State.afterColdReset, started, loaded]
  refine settle_of_settled fun k a ha => ?_
  have sessions : (openReceive (applyCommission x.commission
      (raise .imageFault none (imageFaultArgument (coldState x s).memory) (coldState x s)))).sessions =
        (coldState x s).sessions := by
    show (applyCommission _ _).sessions = _
    rw [applyCommission_sessions, raise_sessions]
  rw [State.session, sessions] at ha
  have hfree := coldState_session x s k
  rw [State.session] at hfree
  rw [hfree] at ha
  cases ha

/-- The one record of a reset notice unit that IMAGE_FAULT is raised in. -/
theorem raise_imageFault (arg : Word16) (x : ColdInputs) (s : State) :
    raise .imageFault none arg (coldState x s) = { coldState x s with
      notice := { NoticeUnit.reset with queue := [⟨.imageFault, none, arg, 0, 1, none, none⟩] } } := rfl

theorem imageFaultArgument_eq (m : ConfigMemory) :
    imageFaultArgument m = if m.answers = true ∧ m.marker = true then 2 else 1 :=
  if_congr (by simp) rfl rfl

/-- A settings record alone gives the settings of the started part (R178, R183). -/
theorem afterColdReset_settings {x : ColdInputs} {s : State} {r : RawSettings}
    (h : imageGood (coldState x s).memory = true)
    (hr : imageRecordsOf (coldState x s).memory = [.settings r]) :
    (s.afterColdReset x).uplink.address =
      (if r.address.getLsbD 40 = false ∧ r.address ≠ 0 then r.address else defaultAddress x.straps) ∧
    ((s.afterColdReset x).notice.destination = (if r.destination = 0 then none else some r.destination) ∧
      (s.afterColdReset x).notice.holdoff = min 255 r.holdoff) ∧
    (s.afterColdReset x).sessionLimit = max 10 (min 3600 r.sessionLimit) ∧
    (s.afterColdReset x).writerLimit = min 3600 r.writerLimit := by
  obtain ⟨v, w, m, hloaded⟩ := loadSettings_eq r (coldState x s)
  have started : (s.afterColdReset x).configuration.2 = (applyCommission x.commission
      (loadSettings r (coldState x s))).configuration.2 := by
    rw [State.afterColdReset, startUp, settle_openReceive_settings, startPorts_settings, loadImage_settings h hr]
  rw [applyCommission_configuration, hloaded] at started
  simp only [State.configuration, Prod.mk.injEq] at started
  obtain ⟨⟨-, hholdoff, hdestination⟩, ⟨haddress, -⟩, hsession, hwriter⟩ := started
  refine ⟨haddress.trans (if_congr (individual_iff _) rfl rfl), ⟨hdestination, hholdoff⟩, hsession, hwriter⟩

/-- Settles O60: with no good image the part stands as reset but for one cause; with a good one, by what the
loading and the start of the ports leave. -/
theorem coldResetStartsThePart : Obligations.ColdResetStartsThePart := by
  intro s x m commissioned sums
  have hm : memoryAfter x s = m := by
    simp only [memoryAfter, m]
    cases x.fitted with
    | some y => rfl
    | none => exact if_congr (by simp [Option.isSome_iff_ne_none]) rfl rfl
  have hmemory : (coldState x s).memory = m := hm
  have hgood := imageGood_iff m
  refine ⟨fun hbad => ?_, fun hanswers hmarker hsums => ?_⟩
  · have hbad' : imageGood (coldState x s).memory = false := by
      rw [hmemory, Bool.eq_false_iff, ne_eq, hgood]
      rintro ⟨hanswers, hmarker, hsums⟩
      rcases hbad with h | h | h
      · rw [h] at hanswers; cases hanswers
      · rw [h] at hmarker; cases hmarker
      · exact h hsums
    refine ⟨s.afterColdReset x, rfl, ?_, fun p => ?_⟩
    · rw [afterColdReset_bad hbad', raise_imageFault, imageFaultArgument_eq, hmemory]
      rw [← hm]
      simp only [commissioned]
      cases x.commission <;> rfl
    · rw [afterColdReset_bad hbad']
      show (applyCommission _ _).port p = _
      rw [State.port, applyCommission_ports, raise_ports]
      exact coldState_port x s p
  · have himage : imageGood (coldState x s).memory = true := by
      rw [hmemory]; exact hgood.2 ⟨hanswers, hmarker, hsums⟩
    have hout := afterColdReset_outside x s
    simp only [State.outside, Prod.mk.injEq] at hout
    obtain ⟨hstations, hcommissioning, huplink, hsession, hwriter, hsaving, hmem, -⟩ := hout
    obtain ⟨hcommission, hwildcard⟩ := loadImage_good_commission (b := x.commission) himage
    have hloaded := loadImage_good_image (b := x.commission) himage
    simp only [Prod.mk.injEq] at hloaded
    obtain ⟨hrx, hreplies⟩ := afterColdReset_queues x s
    refine ⟨s.afterColdReset x, rfl, afterColdReset_session x s, hcommissioning.trans hcommission,
      fun h => ?_, ⟨by rw [huplink]; rfl, hrx, hreplies, hsaving.trans hloaded.1,
        (hmem.trans hloaded.2).trans hmemory⟩, afterColdReset_port x s, fun r hr => ?_⟩
    · rw [State.station, hstations]
      exact hwildcard h
    · obtain ⟨haddress, hnotice, hlimits⟩ := afterColdReset_settings himage (by rw [hmemory]; exact hr)
      exact ⟨haddress, hnotice.1, hnotice.2, hlimits.1, hlimits.2⟩

end Sys2Proof.Machine
end
